-- ==== Sys2Proof/Word.lean ====
section
/-! DEFINITION. The one word type of the NG-720's interface: the byte of the Segment Link (R179, R180). -/

namespace Sys2Proof

/-- One byte of a Segment Link frame, bit 0 the least significant (R179). -/
abbrev Byte := BitVec 8

end Sys2Proof
end

