-- ==== Sys2Proof/Syntax.lean ====
section
/-! DEFINITION. The commands of the block: one constructor of `Instr` per row of spec/opcode_table.json,
with what the event brings with it as operands. -/

namespace Sys2Proof

/-- The two cable runs of the Segment Link (chapter 03). -/
inductive Path where
  | one
  | two
  deriving DecidableEq, Repr

/-- Which of two events at the end of a centre exchange that brought a reply is taken first: the Cycle
Sequencer's choice of the next request, or the orders of the reply. R57 allows both. -/
inductive ChoiceOrder where
  | choiceFirst
  | ordersFirst
  deriving DecidableEq, Repr

/-- Which of two independent events after an interval close in STARTUP is taken first: Mode Control's count
of the close, or the band evaluation that the close asked for. R26 allows both, and in the second case lets the
pass of the evaluation run before the count: `visits` of its visits come first, or all of them where the pass has
fewer. -/
inductive CountOrder where
  | countFirst
  | evaluationFirst (visits : Nat)
  deriving DecidableEq, Repr

/-- The steps of the part, each whole and indivisible (chapter 95, spec/opcode_table.json). -/
inductive Instr where
  /-- HARDWARE_RESET: the reset input is asserted (R17, R39). -/
  | hardwareReset
  /-- RESET_RELEASE: the reset input is released with the straps at these levels (R187): the two rate
  straps, the seven trunk-address straps, and whether the path-mode strap is high. -/
  | resetRelease (rate : BitVec 2) (trunk : BitVec 7) (pathModeHigh : Bool)
  /-- TRANSMISSION_START: the held request starts on both paths (R31). -/
  | transmissionStart
  /-- END_OF_TRANSMISSION: the last byte of the request has been sent (R31). -/
  | endOfTransmission
  /-- FRAME_END: a frame ends on a path. `codingError` says whether it contained a coding error (R180),
  `bytes` are the bytes received, first byte first, and `order` settles R57 where the frame ends a
  centre exchange with a reply; it is not read otherwise. -/
  | frameEnd (path : Path) (codingError : Bool) (bytes : List Byte) (order : ChoiceOrder)
  /-- REPLY_TIMEOUT: the reply timeout expires (R33); `order` as for FRAME_END. -/
  | replyTimeout (order : ChoiceOrder)
  /-- GUARD_GAP_ELAPSED: the decoded paths have been quiet for the guard gap (R38). -/
  | guardGapElapsed
  /-- BUILT_IN_IDLE_WAIT_EXPIRY: the idle wait of the built-in cycle expires (R64). -/
  | builtInIdleWaitExpiry
  /-- INTERVAL_TIMER_EXPIRY (R59); `order` settles R26 where the expiry closes an interval in STARTUP. -/
  | intervalTimerExpiry (order : CountOrder)
  /-- EVALUATION_TIMER_EXPIRY: the interval close (R61); `order` settles R26 in STARTUP. -/
  | evaluationTimerExpiry (order : CountOrder)
  /-- BAND_EVALUATION: a band evaluation asked for at a close is taken (R100). -/
  | bandEvaluation
  /-- WAITING_RESULT_OFFER: Detector Supervision offers its waiting results (R97). -/
  | waitingResultOffer
  /-- CENTRE_EXCHANGE_RECEIVED: a GOOD or RESCUED CXE end is settled (R164). -/
  | centreExchangeReceived
  /-- CENTRE_EXCHANGE_FAILED: a TIMEOUT or ERROR CXE end is settled (R163). -/
  | centreExchangeFailed
  /-- COMPOSITION_PASS_VISIT: one visit of the running pass (R141). -/
  | compositionPassVisit
  /-- DWELL_TIMER_EXPIRY: the dwell timer of a gantry reaches 0 (R117). -/
  | dwellTimerExpiry (gantry : Nat)
  /-- MERGE_HOLD_EXPIRY: the merge-hold timer of the shoulder order in a register slot expires (R138). -/
  | mergeHoldExpiry (slot : Nat)
  /-- REFRESH_TIME_REACHED: a gantry's time since the last SET reaches the refresh time (R152). -/
  | refreshTimeReached (gantry : Nat)
  /-- FRAME_START: the start of a frame is seen on a path (R37). -/
  | frameStart (path : Path)
  deriving DecidableEq, Repr

end Sys2Proof
end

