-- ==== Sys2Proof/Decode.lean ====
section
/-! DEFINITION. The command that a word of spec/opcode_table.json spells. The table's rows are events and
carry no bits ("fields" is empty in every row), so no word spells a command. -/

namespace Sys2Proof

/-- The command a word of `nbits` bits with value `w` spells by the table's bits: none, since no row of
the table gives any. -/
def decodeTableWord (_nbits _w : Nat) : Option Instr := none

end Sys2Proof
end

