-- ==== Sys2Proof/Config.lean ====
section
/-! DEFINITION. What the manual fixes for every NG-720 (sizes, built-in values), and the free values:
the values the manual leaves open, as constants without a body. -/

namespace Sys2Proof.Config

/-- The most gantries a segment holds: numbers 0 to 31 (chapter 00, R9). -/
abbrev maxGantries : Nat := 32

/-- The most stations a segment holds: numbers 0 to 47 (chapter 00, R8). -/
abbrev maxStations : Nat := 48

/-- Lane numbers run from 0, the shoulder, to 5 (chapter 00, R8, R9). -/
abbrev maxLanes : Nat := 6

/-- Built-in reply timeout in ms, while no Segment Parameters record is held (R6). -/
abbrev builtInReplyTimeout : Nat := 20

/-- Built-in centre loss limit, while no Segment Parameters record is held (R6). -/
abbrev builtInCentreLossLimit : Nat := 10

/-- The built-in idle wait in ms (R64). -/
abbrev builtInIdleWait : Nat := 50

/-- The Report Queue's length (R169). -/
abbrev reportQueueSize : Nat := 48

/-- A GANTRY NOTICE is admitted while the Report Queue holds fewer entries than this (R169). -/
abbrev gantryNoticeLimit : Nat := 40

/-- The largest credit, and the most report messages, of one CXE request (R160, R161). -/
abbrev maxCredit : Nat := 4

/-- The largest payload of a frame in bytes (R30, R180). -/
abbrev maxPayload : Nat := 60

/-- Entries of the Limit Order Register (R106). -/
abbrev limitRegisterSize : Nat := 8

/-- Entries, and slots, of the Closure Register (R119). -/
abbrev closureRegisterSize : Nat := 12

/-- Ids in one Lane Overlay List (R120). -/
abbrev overlaySize : Nat := 4

/-- The value at which the five link counters freeze (R48). -/
abbrev counterTop : Nat := 65535

/-- The run of VALID check-path copies that clears CPD, and of non-VALID copies that downs a path (R41, R42). -/
abbrev pathRun : Nat := 16

/-- Failed attempts in a row that make a gantry FAILED (R149). -/
abbrev maxAttempts : Nat := 3

/-- Normal takings in a row that end FAULT (R92). -/
abbrev normalRunLength : Nat := 3

/-- Where the time since the last SET saturates, in ms (R145: 300 s). -/
abbrev sinceSetTop : Nat := 300000

/-- FREE VALUE (assumption 4). The code byte of the order kind UNKNOWN in an ORDER RESPONSE: R168 names
the kind, and no layout of chapter 12 gives its code. Nothing constrains it. -/
opaque unknownOrderKindCode : Byte

/-- FREE VALUE (assumption 5). Whether a well-formed late frame seen before any request has been sent since
the hardware reset is classed VALID or WRONG: R51 classes a late frame against the last exchange started,
and there is none. Applied to the frame's bytes. -/
opaque lateClassBeforeFirstRequest : List Byte → Bool

end Sys2Proof.Config
end

