-- ==== Sys2Proof/Machine/Records.lean ====
section
/-! DEFINITION. The data types of the state: the items each block of the NG-720 holds, under the manual's
names. Times are kept in milliseconds. -/

namespace Sys2Proof.Machine

/-! ## Shared names (chapter 00) -/

/-- The segment mode (R17, R18). -/
inductive Mode where
  | unconfigured
  | standby
  | startup
  | active
  deriving DecidableEq, Repr

/-- A limit: a number of km/h, or NL, no mandatory limit (chapter 00, R7). -/
inductive Limit where
  | kmh (v : Nat)
  | nl
  deriving DecidableEq, Repr

/-- A lane aspect (chapter 00). -/
inductive Aspect where
  | blank
  | limit (v : Nat)
  | nlEnd
  | closed
  | mergeNearside
  | mergeOffside
  deriving DecidableEq, Repr

/-- What a driver reports one lane as showing: an aspect, or a code that names none (R145, R181). -/
inductive Displayed where
  | shows (a : Aspect)
  | unreadable
  deriving DecidableEq, Repr

/-- A gantry's legend (chapter 00). -/
inductive Legend where
  | blank
  | congestion
  | queueAhead
  | incidentAhead
  | shoulderRunning
  | reducedVisibility
  | roadworks
  deriving DecidableEq, Repr

/-- The side a merge takes when two open lanes are equally near (R9). -/
inductive MergeSide where
  | nearside
  | offside
  deriving DecidableEq, Repr

/-- One value for each of the two paths. -/
structure PerPath (α : Type) where
  one : α
  two : α
  deriving DecidableEq, Repr

/-! ## The table store (chapter 01) -/

/-- A Segment Parameters record (R5), in its own units: s, ms, km/h, permille, counts. -/
structure Params where
  intervalLength : Nat
  evaluationOffset : Nat
  replyTimeout : Nat
  lateGuard : Bool
  guardGap : Nat
  step : Nat
  displaySet : List Nat
  faultPersistence : Nat
  plausibilityThreshold : Nat
  stoppedOccupancy : Nat
  clearOccupancy : Nat
  startupEvaluations : Nat
  refreshTime : Nat
  mergeHold : Nat
  centreLossLimit : Nat
  deriving DecidableEq, Repr

/-- A Station Table record (R8). -/
structure StationDesc where
  address : Nat
  spacing : Nat
  laneCount : Nat
  shoulder : Bool
  governing : Nat
  weight : Nat
  hold : Nat
  deriving DecidableEq, Repr

/-- A Gantry Map record (R9); `lanes` is the running lane count N. -/
structure GantryDesc where
  address : Nat
  lanes : Nat
  shoulder : Bool
  gmax : Limit
  dwell : Nat
  window : List Nat
  side : MergeSide
  cascadeBreak : Bool
  fallback : Nat
  startupLimit : Limit
  unsupportedHold : Nat
  deriving DecidableEq, Repr

/-- A Band Table record (R10). -/
structure BandDesc where
  von : Nat
  voff : Nat
  oon : Nat
  ooff : Nat
  limit : Nat
  legend : Legend
  deriving DecidableEq, Repr

/-- A Cycle Table record: one slot (R11). -/
inductive Slot where
  | station (n : Nat)
  | centre
  | command
  | spare
  deriving DecidableEq, Repr

/-- The table store (R1): each section is one place per index below its declared length, so the list's
length is the declared length. -/
structure Tables where
  params : List (Option Params)
  stations : List (Option StationDesc)
  gantries : List (Option GantryDesc)
  bands : List (Option BandDesc)
  cycle : List (Option Slot)
  deriving DecidableEq, Repr

/-! ## Mode Control (chapter 02) and the straps (chapter 12) -/

/-- Mode Control's items (R17). -/
structure ModeControl where
  mode : Mode
  tableChecked : Bool
  startupCount : Nat
  deriving DecidableEq, Repr

/-- The straps as last read (R187): the rate straps' value, and the trunk address in use. -/
structure Straps where
  rate : BitVec 2
  trunkAddress : Nat
  deriving DecidableEq, Repr

/-! ## The Link Controller (chapter 03) -/

/-- DUAL or SINGLE path mode (R46). -/
inductive PathMode where
  | dual
  | single
  deriving DecidableEq, Repr

/-- The request kinds of the Segment Link (R30, R180). -/
inductive RequestKind where
  | mark
  | ivr
  | sgs
  | sgq
  | cxe
  deriving DecidableEq, Repr

/-- Whether a mode change has overtaken a request since it was handed over, as its owner reads it at the end:
not overtaken; overtaken by an entry to STANDBY, so that an SGS reply is judged without a placement (R21, R29)
and a MARK opens no interval (assumption 13); overtaken by a return to UNCONFIGURED, so that a sign reply is
discarded as well (R23, R148, R156). -/
inductive ReplyFate where
  | judge
  | judgeOnly
  | discard
  deriving DecidableEq, Repr

/-- A request as handed over by the Cycle Sequencer (R30, R54): `slot` is the Cycle Table position, absent
for a MARK and in the built-in cycle. -/
structure Request where
  kind : RequestKind
  address : Nat
  payload : List Byte
  slot : Option Nat
  fate : ReplyFate
  deriving DecidableEq, Repr

/-- What a reply hands on (R35): the station status byte and the payload. -/
structure Reply where
  status : Byte
  payload : List Byte
  deriving DecidableEq, Repr

/-- A path's copy so far in an exchange (R34). -/
inductive Copy where
  | silent
  | bad
  | wrong
  | valid (r : Reply)
  deriving DecidableEq, Repr

/-- A path result as the Exception Capture record shows it (R51). -/
inductive CopyResult where
  | valid
  | bad
  | wrong
  | silent
  | absent
  deriving DecidableEq, Repr

/-- The exchange in progress, with the paths, receive path, path mode and reply timeout it started with
(R39). `remaining` is what is left of the reply timeout once it runs, `expired` says that it has expired,
and `waitingCheck` that the receive path has its VALID copy and the check path's frame is awaited (R33). -/
structure Exchange where
  request : Request
  tag : Nat
  mode : PathMode
  receive : Path
  copies : PerPath Copy
  remaining : Nat
  expired : Bool
  waitingCheck : Bool
  deriving DecidableEq, Repr

/-- The exchange state (R31), with what each state needs: the exchange in SENDING and AWAITING; in GUARD
the guard gap and what is left of the quiet measurement (R38). -/
inductive LinkPhase where
  | idle
  | sending (x : Exchange)
  | awaiting (x : Exchange)
  | guarding (gap remaining : Nat)
  deriving DecidableEq, Repr

/-- How a frame being received on a path stands to the exchange: it belongs to it, or it is late (R32, R37). -/
inductive Arrival where
  | belongs
  | late
  deriving DecidableEq, Repr

/-- The last exchange started since the hardware reset, MARK included (R51). -/
structure ExchangeId where
  kind : RequestKind
  address : Nat
  tag : Nat
  slot : Option Nat
  deriving DecidableEq, Repr

/-- What a link exception was (R51). -/
inductive ExceptionKind where
  | timeout
  | error
  | duplicate
  | late
  deriving DecidableEq, Repr

/-- The Exception Capture record's fields (R51). -/
structure Capture where
  outcome : ExceptionKind
  exchange : Option ExchangeId
  results : PerPath CopyResult
  deriving DecidableEq, Repr

/-- The five link counters (R48). -/
structure Counters where
  exchanges : Nat
  errors : Nat
  strays : Nat
  pathErrors : PerPath Nat
  deriving DecidableEq, Repr

/-- The Link Controller's items (chapter 03): `decodeMode` is the path mode of the last exchange started,
which decides what is decoded until the next one starts (R46); `receiving` is the frame arriving on each
path; `driverEnable` stands for the two driver enable pins and `transmitted` for the bytes being driven on
both paths (R30, chapter 12). -/
structure Link where
  phase : LinkPhase
  held : Option Request
  nextTag : Nat
  pathMode : PathMode
  decodeMode : PathMode
  receivePath : Path
  cpd : Bool
  checkRun : Nat
  nonValid : PerPath Nat
  down : PerPath Bool
  receiving : PerPath (Option Arrival)
  counters : Counters
  capture : Option Capture
  frozen : Bool
  lastExchange : Option ExchangeId
  driverEnable : Bool
  transmitted : List Byte
  deriving DecidableEq, Repr

/-! ## The Cycle Sequencer (chapter 04) -/

/-- The Cycle Sequencer's items (R53). Timers are the remaining time in ms, absent when stopped.
`choiceOwed` says that the choice at the last exchange end waits for the orders of its reply (R57), and
`building` that a CXE request has been chosen for the given slot and its content is still to be built
(R159). -/
structure Sequencer where
  position : Nat
  interval : Nat
  markPending : Bool
  intervalTimer : Option Nat
  evaluationTimer : Option Nat
  idleWait : Option Nat
  choiceOwed : Bool
  building : Option (Option Nat)
  deriving DecidableEq, Repr

/-! ## Interval Reduction and Detector Supervision (chapters 05, 06) -/

/-- One lane's interval values, as reported or injected (R66). -/
structure LaneValues where
  nL : Nat
  nG : Nat
  p : Nat
  tsum : Nat
  oms : Nat
  deriving DecidableEq, Repr

/-- A lane's health (R84). -/
inductive Health where
  | ok
  | suspect
  | fault
  deriving DecidableEq, Repr

/-- A lane's health context (R84). -/
structure HealthContext where
  health : Health
  excluded : Bool
  stuck : Nat
  silent : Nat
  normalRun : Nat
  plausibility : Nat
  deriving DecidableEq, Repr

/-- An injection run's context (R95). -/
structure InjectionRun where
  values : LaneValues
  remaining : Nat
  takings : Nat
  saved : HealthContext
  test : HealthContext
  deriving DecidableEq, Repr

/-- A lane's state in a station summary (R82). -/
inductive LaneState where
  | usable
  | excluded
  | test
  | suspect
  | fault
  deriving DecidableEq, Repr

/-- A Lane Record: the measurement part (R66), the health part (R84), and the lane's state as its station's
last taking left it, which the summary reports (R82). Speed `none` is NO_SPEED; a history entry `none` is
NOT_TAKEN. -/
structure LaneRec where
  values : Option LaneValues
  test : Bool
  speed : Option Nat
  occupancy : Nat
  count : Nat
  history : List (Option Nat)
  context : HealthContext
  run : Option InjectionRun
  lastState : LaneState
  deriving DecidableEq, Repr

/-- The last poll result of a station (R66). -/
inductive PollResult where
  | taken
  | notHeld
  | wrongInterval
  | malformed
  | failed
  | discarded
  | never
  deriving DecidableEq, Repr

/-- A station's closed summary (R82). Speed `none` is NO_SAMPLE, controlling speed `none` UNSEEDED. -/
structure ClosedSummary where
  station : Nat
  interval : Nat
  taken : Bool
  poll : PollResult
  speed : Option Nat
  occupancy : Nat
  flow : Nat
  usable : Nat
  controlling : Option Nat
  valid : Bool
  stale : Nat
  missed : Nat
  laneStates : List LaneState
  deriving DecidableEq, Repr

/-- A Station Record with its Lane Records, the latter by lane number 0 to 5 (R66). -/
structure StationRec where
  taken : Bool
  poll : PollResult
  status : Option Byte
  speed : Option Nat
  occupancy : Nat
  flow : Nat
  usable : Nat
  smoothed : Nat
  seeded : Bool
  stale : Nat
  missed : Nat
  summary : Option ClosedSummary
  lanes : List LaneRec
  deriving DecidableEq, Repr

/-- An INJECTION RESULT (R97). -/
structure InjectionResult where
  station : Nat
  lane : Nat
  health : Health
  plausibility : Nat
  takings : Nat
  deriving DecidableEq, Repr

/-! ## Speed Control (chapter 07) -/

/-- A Gantry Control Record (R99); the dwell timer is the remaining time in ms, 0 when stopped. `expiryDue` says
that the timer has run down to 0 and the event of R117 has not been taken yet. -/
structure GantryControl where
  band : Nat
  unsupported : Nat
  demanded : Option Limit
  dwell : Nat
  pendingIncrease : Bool
  expiryDue : Bool
  deriving DecidableEq, Repr

/-- An entry of the Limit Order Register (R106). -/
structure LimitOrder where
  id : Nat
  firstGantry : Nat
  lastGantry : Nat
  cap : Nat
  legend : Option Legend
  deriving DecidableEq, Repr

/-! ## The Closure Unit (chapter 08) -/

/-- The shoulder state of a gantry (R119, R130). -/
inductive ShoulderState where
  | closed
  | opened
  | merge
  deriving DecidableEq, Repr

/-- The state of a shoulder order (R119). -/
inductive ShoulderPhase where
  | opening
  | halted
  | opened
  | closing
  deriving DecidableEq, Repr

/-- A lane closure (`lanes` present) or a carriageway closure (`lanes` absent); `effective` is the effective
site as last settled, `unprotected` its CLOSURE_UNPROTECTED condition (R119, R125). -/
structure RoadClosure where
  site : Nat
  lanes : Option (List Nat)
  cap : Nat
  effective : Nat
  unprotected : Bool
  deriving DecidableEq, Repr

/-- A shoulder opening (R119); the merge-hold timer is the remaining time in ms, absent when stopped. -/
structure ShoulderOrder where
  firstGantry : Nat
  lastGantry : Nat
  phase : ShoulderPhase
  front : Option Nat
  mergeHold : Option Nat
  deriving DecidableEq, Repr

/-- What an entry of the Closure Register closes or opens. -/
inductive ClosureBody where
  | road (c : RoadClosure)
  | shoulder (o : ShoulderOrder)
  deriving DecidableEq, Repr

/-- An entry of the Closure Register (R119). -/
structure Closure where
  id : Nat
  slot : Nat
  body : ClosureBody
  deriving DecidableEq, Repr

/-- The Closure Unit's items (R119, R120): the register in order of acceptance; the Lane Overlay Lists by
gantry and lane number; the shoulder state of each gantry. -/
structure ClosureUnit where
  register : List Closure
  overlays : List (List (List Nat))
  shoulders : List ShoulderState
  deriving DecidableEq, Repr

/-! ## Aspect Composer and Sign Delivery (chapter 09) -/

/-- One aspect per signed lane, lane 0 first where present, and a legend (R145). -/
structure Signing where
  aspects : List Aspect
  legend : Legend
  deriving DecidableEq, Repr

/-- The driver status copy (R145): the lanes with a lamp fault, LOCAL, supply fault. -/
structure DriverStatus where
  lampFaults : List Nat
  inLocal : Bool
  supplyFault : Bool
  deriving DecidableEq, Repr

/-- A gantry's delivery state (R145). -/
inductive DeliveryState where
  | unknown
  | awaiting
  | confirmed
  | failed
  | inLocal
  deriving DecidableEq, Repr

/-- A Gantry Delivery Record (R145), less the queue items, which the Sign Command Queue holds; the time since
the last SET is in ms, and `failedLanes` lists the lanes whose flag is set, in ascending order. -/
structure DeliveryRec where
  demanded : Option Signing
  sent : Option Signing
  setSequence : Nat
  confirmed : Option (List Displayed)
  confirmedLegend : Option Legend
  state : DeliveryState
  attempts : Nat
  failedLanes : List Nat
  sinceSet : Option Nat
  status : Option DriverStatus
  deriving DecidableEq, Repr

/-- The class of a Sign Command Queue entry (R146). -/
inductive EntryClass where
  | restrictive
  | ordinary
  deriving DecidableEq, Repr

/-- An entry of the Sign Command Queue; its arrival is its place in the queue's list (R146). -/
structure QueueEntry where
  gantry : Nat
  cls : EntryClass
  deriving DecidableEq, Repr

/-- The composer's items: the pass state, IDLE or RUNNING with its next gantry (R140); one Gantry Delivery
Record per gantry; the Sign Command Queue in arrival order; the refresh rotation (R151). -/
structure Composer where
  pass : Option Nat
  delivery : List DeliveryRec
  queue : List QueueEntry
  rotation : Nat
  deriving DecidableEq, Repr

/-! ## Alerts (chapter 11) -/

/-- The alert kinds, in the order of the Alert Table (R172). -/
inductive AlertKind where
  | signFault
  | gantryUnsupported
  | stationLost
  | laneFault
  | laneSuspect
  | closureUnprotected
  | shoulderHalted
  | pathDown
  | checkPathDisturbed
  | countPeriod
  | centreLinkLost
  | orderOverrun
  | linkException
  deriving DecidableEq, Repr

/-- An entry's name in the Alert Table: a kind and a subject, as the two subject bytes of R183 (a gantry,
station, slot or path and 0; a station and a lane; 0 and 0 for a single kind). -/
structure AlertKey where
  kind : AlertKind
  a : Nat
  b : Nat
  deriving DecidableEq, Repr

/-- The Alert Unit's items (R172): the entries whose present flag is set and those whose latched flag is set,
each list in the table's order; the Notice List, oldest first; the MASKED kinds in the table's order; the
alert output line (R177). -/
structure AlertUnit where
  present : List AlertKey
  latched : List AlertKey
  notices : List AlertKey
  masked : List AlertKind
  line : Bool
  deriving DecidableEq, Repr

/-! ## Centre Exchange (chapter 10) -/

/-- The orders' kinds, in the order of their codes 1 to 17 (R184), and UNKNOWN (R168). -/
inductive OrderKind where
  | modeOrder
  | tableLoad
  | tableCheck
  | restart
  | laneClose
  | carriagewayClose
  | shoulderOpen
  | orderClear
  | limitSet
  | laneHealthClear
  | inject
  | pathForce
  | pathModeOrder
  | counterReset
  | query
  | alertAck
  | alertMask
  | unknown
  deriving DecidableEq, Repr

/-- The refusal reasons, in the order of R168. -/
inductive Reason where
  | wrongMode
  | badTable
  | unknownOrder
  | registerFull
  | overlayFull
  | duplicateId
  | noSuchOrder
  | badLocation
  | overlap
  | unverified
  | shoulderNotClear
  | busy
  deriving DecidableEq, Repr

/-- The outcome of an order, with the reason of a refusal (R168). -/
inductive Verdict where
  | accepted
  | clamped
  | refused (r : Reason)
  deriving DecidableEq, Repr

/-- The detail of a response (R168). -/
inductive Detail where
  | absent
  | cap (cap : Nat)
  | capSlot (cap slot : Nat)
  | slot (slot : Nat)
  | runLength (n : Nat)
  | table (sect index item : Nat)
  | register (closures : Bool)
  | gantryLane (gantry lane : Nat)
  | order (id : Nat)
  | station (n : Nat)
  deriving DecidableEq, Repr

/-- The fields of an ORDER RESPONSE less its report number (R168). -/
structure Response where
  message : Byte
  kind : OrderKind
  verdict : Verdict
  detail : Detail
  mode : Mode
  deriving DecidableEq, Repr

/-- A GANTRY NOTICE (R155). -/
structure GantryNotice where
  gantry : Nat
  confirmed : Option (List Displayed)
  legend : Option Legend
  state : DeliveryState
  failedLanes : List Nat
  setSequence : Nat
  deriving DecidableEq, Repr

/-- The four kinds of Report Queue entry (R169). -/
inductive ReportBody where
  | orderResponse (r : Response)
  | queryResult (r : Response) (items : List Byte)
  | injectionResult (r : InjectionResult)
  | gantryNotice (n : GantryNotice)
  deriving DecidableEq, Repr

/-- An entry of the Report Queue with its report number (R169) and its delivered offset (R184). -/
structure Report where
  number : Nat
  body : ReportBody
  offset : Nat
  deriving DecidableEq, Repr

/-- A notice as carried: the entry, with the flags it had at the build (R160). -/
structure CarriedNotice where
  key : AlertKey
  present : Bool
  latched : Bool
  deriving DecidableEq, Repr

/-- The carried set and the credit of the CXE request in flight (R158): the notices; the report numbers of
the entries carried to the end of their bodies; the number of an entry carried in part, with the offset
reached (R184); the round the summaries were taken from, with the cursor the settling moves it to (R164). -/
structure Carried where
  notices : List CarriedNotice
  entries : List Nat
  part : Option (Nat × Nat)
  round : Option (Nat × Nat)
  credit : Nat
  deriving DecidableEq, Repr

/-- A summary round (R162); `serial` tells it from every other round (R164). -/
structure Round where
  serial : Nat
  interval : Nat
  cursor : Nat
  deriving DecidableEq, Repr

/-- The centre link state (R165). -/
inductive CentreLink where
  | linked
  | lost
  deriving DecidableEq, Repr

/-- The end of a CXE exchange that has been handed on and not yet settled: the reply's payload, or a failure. -/
inductive CentreEnd where
  | received (payload : List Byte)
  | failed
  deriving DecidableEq, Repr

/-- Centre Exchange's items (R158), with the number of rounds started and the exchange end still to be
settled (R159). -/
structure Centre where
  queue : List Report
  nextReport : Nat
  carried : Option Carried
  round : Option Round
  rounds : Nat
  link : CentreLink
  failures : Nat
  unsettled : Option CentreEnd
  deriving DecidableEq, Repr

end Sys2Proof.Machine
end

