-- ==== Sys2Proof/Machine/Bytes.lean ====
section
/-! DEFINITION. Bytes on the Segment Link: byte order, the frame check, the request frame, and the code tables
of chapter 12. -/

namespace Sys2Proof.Machine

/-- A number as one byte. -/
def byteOf (n : Nat) : Byte := BitVec.ofNat 8 n

/-- A number as two bytes, most significant first (R179). -/
def twoBytes (n : Nat) : List Byte := [byteOf (n / 256), byteOf n]

/-- A number as three bytes, most significant first (R179). -/
def threeBytes (n : Nat) : List Byte := [byteOf (n / 65536), byteOf (n / 256), byteOf n]

/-- The number a run of bytes spells, most significant first (R179). -/
def natOf (bytes : List Byte) : Nat := bytes.foldl (fun acc b => acc * 256 + b.toNat) 0

/-- The byte at a position, 0 past the end. -/
def byteAt (bytes : List Byte) (i : Nat) : Nat := (bytes.getD i 0).toNat

/-- The number in the `n` bytes from position `i` (R179). -/
def fieldAt (bytes : List Byte) (i n : Nat) : Nat := natOf ((bytes.drop i).take n)

/-- A yes-or-no item: 1 for yes, 0 otherwise (R186). -/
def flagByte (b : Bool) : Byte := if b then 1 else 0

/-- Bit `n` of a flags byte set for each `n` listed (R181, R186). -/
def flagsOf (lanes : List Nat) : Byte := lanes.foldl (fun acc n => acc ||| (1 <<< n : Byte)) 0

/-- The lanes a lane byte names, bit n for lane n, ascending. Lanes are numbered 0 to 5, so bits 6 and 7 are not
used and are ignored (R179, R181, R184). -/
def laneSetOf (b : Byte) : List Nat := (List.range Config.maxLanes).filter (fun n => b.getLsbD n)

/-! ## The CRC (R180) -/

/-- `n` single-bit steps of the CRC with generator x^16 + x^12 + x^5 + 1. -/
def crcShift : Nat → BitVec 16 → BitVec 16
  | 0, c => c
  | n + 1, c => crcShift n (if c.msb then (c <<< 1) ^^^ 0x1021 else c <<< 1)

/-- One byte enters the CRC, most significant bit first. -/
def crcByte (c : BitVec 16) (b : Byte) : BitVec 16 := crcShift 8 (c ^^^ (b.setWidth 16 <<< 8))

/-- The CRC over a run of bytes: from all ones, taken as it stands (R180). -/
def crcOf (bytes : List Byte) : Nat := (bytes.foldl crcByte 0xFFFF).toNat

/-! ## Codes (R179 to R181) -/

/-- The kind byte (R180). -/
def RequestKind.code : RequestKind → Nat
  | .mark => 1
  | .ivr => 2
  | .sgs => 3
  | .sgq => 4
  | .cxe => 5

/-- The aspect codes of R181. -/
def Aspect.code : Aspect → Nat
  | .blank => 0
  | .nlEnd => 1
  | .closed => 2
  | .mergeNearside => 3
  | .mergeOffside => 4
  | .limit v => 16 + v / 10

/-- What a displayed code names (R181, R182): a code outside the table is UNREADABLE. -/
def displayedOf (code : Nat) : Displayed :=
  if code = 0 then .shows .blank
  else if code = 1 then .shows .nlEnd
  else if code = 2 then .shows .closed
  else if code = 3 then .shows .mergeNearside
  else if code = 4 then .shows .mergeOffside
  else if 18 ≤ code ∧ code ≤ 28 then .shows (.limit ((code - 16) * 10))
  else .unreadable

/-- A displayed aspect in a report to the centre: 255 for UNREADABLE (R181). -/
def Displayed.code : Displayed → Nat
  | .shows a => a.code
  | .unreadable => 255

/-- The legend codes of R179. -/
def Legend.code : Legend → Nat
  | .blank => 0
  | .congestion => 1
  | .queueAhead => 2
  | .incidentAhead => 3
  | .shoulderRunning => 4
  | .reducedVisibility => 5
  | .roadworks => 6

/-- A legend in a report to the centre: 255 for an absent one (R179). -/
def legendByte : Option Legend → Byte
  | some l => byteOf l.code
  | none => 255

/-- A limit in one byte: 255 for NL (R179). -/
def limitByte : Limit → Byte
  | .kmh v => byteOf v
  | .nl => 255

/-- A speed in one byte: 255 for NO_SAMPLE, NO_SPEED or UNSEEDED (R179). -/
def speedByte : Option Nat → Byte
  | some v => byteOf v
  | none => 255

/-- The segment mode's code (R179). -/
def Mode.code : Mode → Nat
  | .unconfigured => 0
  | .standby => 1
  | .startup => 2
  | .active => 3

/-- The last poll result's code, in the order of the Station Record table (R179). -/
def PollResult.code : PollResult → Nat
  | .taken => 0
  | .notHeld => 1
  | .wrongInterval => 2
  | .malformed => 3
  | .failed => 4
  | .discarded => 5
  | .never => 6

/-- The health's code (R183, R186). -/
def Health.code : Health → Nat
  | .ok => 0
  | .suspect => 1
  | .fault => 2

/-- The delivery state's code (R179, R186). -/
def DeliveryState.code : DeliveryState → Nat
  | .unknown => 0
  | .awaiting => 1
  | .confirmed => 2
  | .failed => 3
  | .inLocal => 4

/-- A lane state's code in a STATION SUMMARY (R183). -/
def LaneState.code : LaneState → Nat
  | .usable => 0
  | .excluded => 1
  | .test => 2
  | .suspect => 3
  | .fault => 4

/-- The order kind's code byte (R184); that of UNKNOWN is a free value (assumption 4). -/
def OrderKind.code : OrderKind → Byte
  | .modeOrder => 1
  | .tableLoad => 2
  | .tableCheck => 3
  | .restart => 4
  | .laneClose => 5
  | .carriagewayClose => 6
  | .shoulderOpen => 7
  | .orderClear => 8
  | .limitSet => 9
  | .laneHealthClear => 10
  | .inject => 11
  | .pathForce => 12
  | .pathModeOrder => 13
  | .counterReset => 14
  | .query => 15
  | .alertAck => 16
  | .alertMask => 17
  | .unknown => Config.unknownOrderKindCode

/-- The refusal reason's code, from 1 (R179). -/
def Reason.code : Reason → Nat
  | .wrongMode => 1
  | .badTable => 2
  | .unknownOrder => 3
  | .registerFull => 4
  | .overlayFull => 5
  | .duplicateId => 6
  | .noSuchOrder => 7
  | .badLocation => 8
  | .overlap => 9
  | .unverified => 10
  | .shoulderNotClear => 11
  | .busy => 12

/-- The alert kind's code, from 1 in the order of the Alert Table (R179). -/
def AlertKind.code : AlertKind → Nat
  | .signFault => 1
  | .gantryUnsupported => 2
  | .stationLost => 3
  | .laneFault => 4
  | .laneSuspect => 5
  | .closureUnprotected => 6
  | .shoulderHalted => 7
  | .pathDown => 8
  | .checkPathDisturbed => 9
  | .countPeriod => 10
  | .centreLinkLost => 11
  | .orderOverrun => 12
  | .linkException => 13

/-- Every alert kind, in the order of the Alert Table (R172). -/
def alertKinds : List AlertKind :=
  [.signFault, .gantryUnsupported, .stationLost, .laneFault, .laneSuspect, .closureUnprotected, .shoulderHalted,
   .pathDown, .checkPathDisturbed, .countPeriod, .centreLinkLost, .orderOverrun, .linkException]

/-- The alert kind a code names, if any (R171). -/
def alertKindOf (code : Nat) : Option AlertKind := alertKinds.find? (fun k => k.code == code)

/-! ## Frames (R180) -/

/-- The bytes of a request frame: address, kind, tag, payload length, payload, CRC (R180). -/
def requestFrame (r : Request) (tag : Nat) : List Byte :=
  let body := [byteOf r.address, byteOf r.kind.code, byteOf tag, byteOf r.payload.length] ++ r.payload
  body ++ twoBytes (crcOf body)

end Sys2Proof.Machine
end

