-- ==== Sys2Proof/Machine/State.lean ====
section
/-! DEFINITION. The state of the NG-720, as plain data, its value after a hardware reset, and the reasons a
step can stop. -/

namespace Sys2Proof.Machine

/-- The part raises no fault: every event of the table has the effect its rules give it, and an event whose
conditions do not hold does not occur (assumption 1). The type has no constructor, so no step faults. -/
inductive Fault where
  deriving DecidableEq, Repr

/-- Why a step is refused. -/
inductive Refusal where
  /-- Raised by `exec` for a row of the opcode table without a meaning. No arm raises it. Safe: the model
  stops where the part goes on. -/
  | notModelled (mnemonic : String)
  deriving DecidableEq, Repr

/-- The whole state of the part. -/
structure State where
  /-- The commands that wait, first in, first out: the model's own. -/
  pending : List Instr
  /-- The reset input is asserted: from the assertion until the release nothing else acts (chapter 12). -/
  resetAsserted : Bool
  straps : Straps
  modeControl : ModeControl
  tables : Tables
  link : Link
  sequencer : Sequencer
  /-- Station Records by station number 0 to 47 (R66). -/
  stations : List StationRec
  /-- INJECTION RESULTs not yet placed, in the order their runs ended (R97). -/
  waiting : List InjectionResult
  /-- Gantry Control Records by gantry number 0 to 31 (R99). -/
  control : List GantryControl
  /-- The Limit Order Register (R106). -/
  limitOrders : List LimitOrder
  closures : ClosureUnit
  composer : Composer
  centre : Centre
  alerts : AlertUnit
  /-- Band evaluations asked for and not yet taken (R78, R100). -/
  evaluationsAsked : Nat
  /-- An interval close in STARTUP whose count Mode Control has still to take, with how many visits of a pass
  come between its band evaluation and the count (R26). -/
  countOwed : Option Nat
  deriving DecidableEq, Repr

/-- The empty table store (R1). -/
def Tables.empty : Tables :=
  { params := [], stations := [], gantries := [], bands := [], cycle := [] }

/-- The health context's empty values (R84). -/
def HealthContext.empty : HealthContext :=
  { health := .ok, excluded := false, stuck := 0, silent := 0, normalRun := 0, plausibility := 0 }

/-- An empty Lane Record (R66, R84). -/
def LaneRec.empty : LaneRec :=
  { values := none, test := false, speed := none, occupancy := 0, count := 0, history := [],
    context := .empty, run := none, lastState := .usable }

/-- An empty Station Record (R66). -/
def StationRec.empty : StationRec :=
  { taken := false, poll := .never, status := none, speed := none, occupancy := 0, flow := 0, usable := 0,
    smoothed := 0, seeded := false, stale := 0, missed := 0, summary := none,
    lanes := List.replicate Config.maxLanes .empty }

/-- A Gantry Control Record after a reset (R99). -/
def GantryControl.reset : GantryControl :=
  { band := 0, unsupported := 0, demanded := none, dwell := 0, pendingIncrease := false, expiryDue := false }

/-- A Gantry Delivery Record after a hardware reset (R145). -/
def DeliveryRec.reset : DeliveryRec :=
  { demanded := none, sent := none, setSequence := 0, confirmed := none, confirmedLegend := none,
    state := .unknown, attempts := 0, failedLanes := [], sinceSet := none, status := none }

/-- The Closure Unit after a reset (R119). -/
def ClosureUnit.reset : ClosureUnit :=
  { register := [],
    overlays := List.replicate Config.maxGantries (List.replicate Config.maxLanes []),
    shoulders := List.replicate Config.maxGantries .closed }

/-- The Alert Unit after a hardware reset, and as RESTART first leaves it (R172, R178). -/
def AlertUnit.reset : AlertUnit :=
  { present := [], latched := [], notices := [], masked := [], line := false }

/-- The five counters at 0 (R48, R49). -/
def Counters.zero : Counters :=
  { exchanges := 0, errors := 0, strays := 0, pathErrors := { one := 0, two := 0 } }

/-- The Link Controller after a hardware reset (the state table of chapter 03). The path mode is given by
the strap when the reset is released (R187); until then it stands at DUAL (assumption 2). -/
def Link.reset : Link :=
  { phase := .idle, held := none, nextTag := 0, pathMode := .dual, decodeMode := .dual, receivePath := .one,
    cpd := false, checkRun := 0, nonValid := { one := 0, two := 0 }, down := { one := false, two := false },
    receiving := { one := none, two := none }, counters := .zero, capture := none, frozen := false,
    lastExchange := none, driverEnable := false, transmitted := [] }

/-- The Cycle Sequencer after a hardware reset (R53). -/
def Sequencer.reset : Sequencer :=
  { position := 0, interval := 0, markPending := false, intervalTimer := none, evaluationTimer := none,
    idleWait := some Config.builtInIdleWait, choiceOwed := false, building := none }

/-- Centre Exchange after a hardware reset (R158). -/
def Centre.reset : Centre :=
  { queue := [], nextReport := 0, carried := none, round := none, rounds := 0, link := .linked, failures := 0,
    unsettled := none }

/-- The composer after a hardware reset (R140, R145, R151). -/
def Composer.reset : Composer :=
  { pass := none, delivery := List.replicate Config.maxGantries .reset, queue := [], rotation := 0 }

/-- The part right after a hardware reset, with the reset input still asserted: every item at the value its
chapter states. The straps are read at the release (R187); until then they stand as if all were low
(assumption 2). -/
def State.reset : State :=
  { pending := [],
    resetAsserted := true,
    straps := { rate := 0, trunkAddress := 1 },
    modeControl := { mode := .unconfigured, tableChecked := false, startupCount := 0 },
    tables := .empty,
    link := .reset,
    sequencer := .reset,
    stations := List.replicate Config.maxStations .empty,
    waiting := [],
    control := List.replicate Config.maxGantries .reset,
    limitOrders := [],
    closures := .reset,
    composer := .reset,
    centre := .reset,
    alerts := .reset,
    evaluationsAsked := 0,
    countOwed := none }

end Sys2Proof.Machine
end

