-- ==== Sys2Proof/Machine/Ops.lean ====
section
/-! DEFINITION. The named operations every block reads and writes the state through: the two paths, the tables
in use, the records by number, and the values the manual derives from them. -/

namespace Sys2Proof.Machine

/-! ## Paths -/

/-- The other path. -/
def otherPath : Path → Path
  | .one => .two
  | .two => .one

/-- A path's number, 1 or 2. -/
def pathNumber : Path → Nat
  | .one => 1
  | .two => 2

/-- The value held for a path. -/
def PerPath.get {α : Type} (v : PerPath α) : Path → α
  | .one => v.one
  | .two => v.two

/-- The value held for a path replaced. -/
def PerPath.set {α : Type} (v : PerPath α) (p : Path) (x : α) : PerPath α :=
  match p with
  | .one => { v with one := x }
  | .two => { v with two := x }

/-! ## Straps (R187) -/

/-- The bit rate in kbit/s that the rate straps give; 3 is read as 250 kbit/s (R187). -/
def Straps.bitRate (x : Straps) : Nat :=
  if x.rate = 1 then 500 else if x.rate = 2 then 1000 else 250

/-! ## Mode -/

/-- The segment mode (R17). -/
def State.mode (s : State) : Mode := s.modeControl.mode

/-- The segment is in STANDBY, STARTUP or ACTIVE: it has left UNCONFIGURED. -/
def State.configured (s : State) : Bool := decide (s.mode ≠ .unconfigured)

/-- The segment is in STARTUP or ACTIVE: bands are evaluated and passes run (R18). -/
def State.signing (s : State) : Bool := decide (s.mode = .startup ∨ s.mode = .active)

/-- The segment mode changed. -/
def State.setMode (m : Mode) (s : State) : State := { s with modeControl := { s.modeControl with mode := m } }

/-! ## Tables -/

/-- The Segment Parameters while no record is held: the built-in reply timeout, Late Guard and centre loss
limit of R6. The other fields have no built-in value and act in no mode reachable without a record (R6);
they stand at 0 (assumption 15). -/
def Params.builtIn : Params :=
  { intervalLength := 0, evaluationOffset := 0, replyTimeout := Config.builtInReplyTimeout, lateGuard := false,
    guardGap := 0, step := 0, displaySet := [], faultPersistence := 0, plausibilityThreshold := 0,
    stoppedOccupancy := 0, clearOccupancy := 0, startupEvaluations := 0, refreshTime := 0, mergeHold := 0,
    centreLossLimit := Config.builtInCentreLossLimit }

/-- A station without a record: it has no lanes (assumption 15). -/
def StationDesc.absent : StationDesc :=
  { address := 0, spacing := 0, laneCount := 0, shoulder := false, governing := 0, weight := 0, hold := 0 }

/-- A gantry without a record: it signs no lane and watches no station (assumption 15). -/
def GantryDesc.absent : GantryDesc :=
  { address := 0, lanes := 0, shoulder := false, gmax := .nl, dwell := 0, window := [], side := .nearside,
    cascadeBreak := false, fallback := 0, startupLimit := .nl, unsupportedHold := 0 }

/-- The Segment Parameters in force (R5, R6). -/
def Tables.par (t : Tables) : Params := (t.params.getD 0 none).getD .builtIn

/-- A station's record (R8). -/
def Tables.station (t : Tables) (n : Nat) : StationDesc := (t.stations.getD n none).getD .absent

/-- A gantry's record (R9). -/
def Tables.gantry (t : Tables) (g : Nat) : GantryDesc := (t.gantries.getD g none).getD .absent

/-- Band b's record, for b from 1 (R10). -/
def Tables.band (t : Tables) (b : Nat) : Option BandDesc := if b = 0 then none else t.bands.getD (b - 1) none

/-- The Segment Parameters in force. -/
def State.par (s : State) : Params := s.tables.par

/-- How many stations the segment has (R1). -/
def State.stationCount (s : State) : Nat := s.tables.stations.length

/-- How many gantries the segment has (R1). -/
def State.gantryCount (s : State) : Nat := s.tables.gantries.length

/-- The most downstream gantry (R1). -/
def State.lastGantry (s : State) : Nat := s.gantryCount - 1

/-- The instrumented running lanes of a station (R8). -/
def StationDesc.runningLanes (d : StationDesc) : Nat := if d.shoulder then d.laneCount - 1 else d.laneCount

/-- A station's lanes in R8 order: lane 0 first when instrumented, then lanes 1 upward. -/
def StationDesc.laneList (d : StationDesc) : List Nat :=
  (if d.shoulder then [0] else []) ++ List.range' 1 d.runningLanes

/-- A gantry's signed lanes in lane order: lane 0 first where its signal is present (R142, R147). -/
def GantryDesc.signedLanes (d : GantryDesc) : List Nat :=
  (if d.shoulder then [0] else []) ++ List.range' 1 d.lanes

/-- Vtop, the largest member of the Display Set (R7). -/
def Params.vtop (p : Params) : Nat := p.displaySet.getLastD 0

/-- The value of a limit: NL counts as Vtop + 10 (chapter 00, R7). -/
def Params.value (p : Params) : Limit → Nat
  | .kmh v => v
  | .nl => p.vtop + 10

/-- The least-valued of a limit and a list of limits (chapter 00). -/
def Params.least (p : Params) (first : Limit) (rest : List Limit) : Limit :=
  rest.foldl (fun best l => if p.value l < p.value best then l else best) first

/-- The largest member of the Display Set at or below a requested cap, or the smallest member, with whether
the cap was clamped to it (R108, R123). -/
def Params.settleCap (p : Params) (requested : Nat) : Nat × Bool :=
  match (p.displaySet.filter (· ≤ requested)).getLast? with
  | some v => (v, false)
  | none => (p.displaySet.headD 0, true)

/-! ## Records by number -/

/-- A station's record. -/
def State.stationRec (s : State) (n : Nat) : StationRec := s.stations.getD n .empty

/-- A station's record changed. -/
def State.setStation (n : Nat) (r : StationRec) (s : State) : State := { s with stations := s.stations.set n r }

/-- A lane's record. -/
def StationRec.lane (r : StationRec) (l : Nat) : LaneRec := r.lanes.getD l .empty

/-- A gantry's control record. -/
def State.gantryControl (s : State) (g : Nat) : GantryControl := s.control.getD g .reset

/-- A gantry's control record changed. -/
def State.setControl (g : Nat) (c : GantryControl) (s : State) : State := { s with control := s.control.set g c }

/-- A gantry's delivery record. -/
def State.deliveryRec (s : State) (g : Nat) : DeliveryRec := s.composer.delivery.getD g .reset

/-- A gantry's delivery record changed. -/
def State.setDelivery (g : Nat) (d : DeliveryRec) (s : State) : State :=
  { s with composer := { s.composer with delivery := s.composer.delivery.set g d } }

/-- A gantry in FAILED or LOCAL, which neither governs nor signs a closure (R114, R125). -/
def DeliveryState.out (d : DeliveryState) : Bool := decide (d = .failed ∨ d = .inLocal)

/-- The item of a list aligned with a gantry's signed lanes that stands for a lane. -/
def onLane {α : Type} (d : GantryDesc) (items : List α) (lane : Nat) : Option α :=
  ((d.signedLanes.zip items).find? (fun x => x.1 == lane)).map Prod.snd

/-- Interval k is open exactly while the evaluation timer runs (R53). -/
def State.intervalOpen (s : State) : Bool := s.sequencer.evaluationTimer.isSome

/-- A gantry's shoulder state (R119). -/
def State.shoulder (s : State) (g : Nat) : ShoulderState := s.closures.shoulders.getD g .closed

/-- A gantry's shoulder state changed. -/
def State.setShoulder (g : Nat) (x : ShoulderState) (s : State) : State :=
  { s with closures := { s.closures with shoulders := s.closures.shoulders.set g x } }

/-- A request for a composition pass from gantry h (R140): discarded in UNCONFIGURED and STANDBY; starts an IDLE
pass; absorbed when the running pass has still to visit h; else the pass goes back to h. -/
def State.requestPass (h : Nat) (s : State) : State :=
  if s.signing then
    let n := match s.composer.pass with
      | none => h
      | some n => if h ≤ n then n else h
    { s with composer := { s.composer with pass := some n } }
  else s

end Sys2Proof.Machine
end

