-- ==== Sys2Proof/Machine/Flags.lean ====
section
/-! DEFINITION. The Alert Unit (chapter 11): present and latched flags, the Notice List, masks, acknowledges
and the alert line. -/

namespace Sys2Proof.Machine

/-- An entry's place in the Alert Table: by kind, then by subject. -/
def AlertKey.place (k : AlertKey) : Nat := k.kind.code * 65536 + k.a * 256 + k.b

/-- An entry of a single kind, or with a one-number subject. -/
def alertKey (kind : AlertKind) (a : Nat := 0) (b : Nat := 0) : AlertKey := { kind, a, b }

/-- An entry joins a list kept in the table's order, without repeats. -/
def insertKey (k : AlertKey) : List AlertKey → List AlertKey
  | [] => [k]
  | x :: xs =>
    if x = k then x :: xs
    else if k.place < x.place then k :: x :: xs
    else x :: insertKey k xs

/-- A kind joins a list kept in the table's order, without repeats. -/
def insertKind (k : AlertKind) : List AlertKind → List AlertKind
  | [] => [k]
  | x :: xs =>
    if x = k then x :: xs
    else if k.code < x.code then k :: x :: xs
    else x :: insertKind k xs

/-- The kind is UNMASKED. -/
def AlertUnit.unmasked (u : AlertUnit) (kind : AlertKind) : Bool := !u.masked.contains kind

/-- The alert line is settled: asserted while a latched entry of an UNMASKED kind stands (R177). -/
def AlertUnit.settleLine (u : AlertUnit) : AlertUnit :=
  { u with line := u.latched.any (fun k => u.unmasked k.kind) }

/-- An entry of an UNMASKED kind comes to owe a notice: it joins the Notice List at its end, or keeps its
place there (R174). -/
def AlertUnit.owe (k : AlertKey) (u : AlertUnit) : AlertUnit :=
  if u.unmasked k.kind && !u.notices.contains k then { u with notices := u.notices ++ [k] } else u

/-- A reported rise (R173, R174). -/
def AlertUnit.rise (k : AlertKey) (u : AlertUnit) : AlertUnit :=
  if u.present.contains k then u
  else
    ({ u with present := insertKey k u.present, latched := insertKey k u.latched }.owe k).settleLine

/-- A reported fall (R173, R174): it owes a notice while the entry is latched. -/
def AlertUnit.fall (k : AlertKey) (u : AlertUnit) : AlertUnit :=
  if u.present.contains k then
    let u' := { u with present := u.present.erase k }
    if u'.latched.contains k then u'.owe k else u'
  else u

/-- An event of an event kind: its present flag rises and falls again within the event (R173). -/
def AlertUnit.event (k : AlertKey) (u : AlertUnit) : AlertUnit := (u.rise k).fall k

/-- The entries an ALERT ACK selects (R175). -/
inductive AckScope where
  | entry (k : AlertKey)
  | kind (k : AlertKind)
  | all
  deriving DecidableEq, Repr

/-- Whether an ALERT ACK of this scope selects an entry (R175). -/
def AckScope.selects : AckScope → AlertKey → Bool
  | .entry k, x => decide (x = k)
  | .kind k, x => decide (x.kind = k)
  | .all, _ => true

/-- The latches an acknowledge clears: of selected entries whose present flag is clear (R175). -/
def AlertUnit.clears (u : AlertUnit) (scope : AckScope) (k : AlertKey) : Bool :=
  scope.selects k && !u.present.contains k && u.latched.contains k

/-- ALERT ACK (R175). -/
def AlertUnit.acknowledge (scope : AckScope) (u : AlertUnit) : AlertUnit :=
  { u with latched := u.latched.filter (fun k => !u.clears scope k),
           notices := u.notices.filter (fun k => !u.clears scope k) }.settleLine

/-- ALERT MASK to MASKED: the kind's entries leave the Notice List (R176). -/
def AlertUnit.mask (kind : AlertKind) (u : AlertUnit) : AlertUnit :=
  if u.unmasked kind then
    { u with masked := insertKind kind u.masked,
             notices := u.notices.filter (fun k => decide (k.kind ≠ kind)) }.settleLine
  else u

/-- ALERT MASK to UNMASKED: the kind's latched entries join the Notice List in ascending subject order
(R176). -/
def AlertUnit.unmask (kind : AlertKind) (u : AlertUnit) : AlertUnit :=
  if u.unmasked kind then u
  else
    ((u.latched.filter (fun k => decide (k.kind = kind))).foldl
      (fun (v : AlertUnit) (k : AlertKey) => v.owe k)
      { u with masked := u.masked.filter (fun k => decide (k ≠ kind)) }).settleLine

/-- A carried notice that the settling takes out of the list: its entry has still the flags it carried (R164). -/
def AlertUnit.settles (u : AlertUnit) (n : CarriedNotice) : Bool :=
  u.present.contains n.key == n.present && u.latched.contains n.key == n.latched

/-- The carried notices of a received exchange leave the Notice List (R164). -/
def AlertUnit.deliver (carried : List CarriedNotice) (u : AlertUnit) : AlertUnit :=
  { u with notices := u.notices.filter (fun k => !carried.any (fun n => decide (n.key = k) && u.settles n)) }

/-! ## Reports from the owners -/

/-- An owner reports a rise (R173). -/
def State.raise (k : AlertKey) (s : State) : State := { s with alerts := s.alerts.rise k }

/-- An owner reports a fall (R173). -/
def State.lower (k : AlertKey) (s : State) : State := { s with alerts := s.alerts.fall k }

/-- An owner reports the change of a condition from one truth value to another, if it changed. -/
def State.reportChange (k : AlertKey) (before after : Bool) (s : State) : State :=
  match before, after with
  | false, true => s.raise k
  | true, false => s.lower k
  | _, _ => s

/-- Several falls, then several rises, each list in the order given (R174). -/
def State.reportAll (falls rises : List AlertKey) (s : State) : State :=
  rises.foldl (fun s k => s.raise k) (falls.foldl (fun s k => s.lower k) s)

/-- The entry of LINK_EXCEPTION. -/
def linkExceptionKey : AlertKey := alertKey .linkException

/-- A LINK_EXCEPTION event (R50): it latches the entry, and the capture record freezes while the kind is
UNMASKED (R52). -/
def State.linkExceptionEvent (s : State) : State :=
  { s with alerts := s.alerts.event linkExceptionKey,
           link := { s.link with frozen := s.link.frozen || s.alerts.unmasked .linkException } }

/-- The capture record is released when the LINK_EXCEPTION latch is cleared or its kind masked, and freezes
when the kind is unmasked with its entry latched (R52): it is frozen exactly while the latch of an
UNMASKED LINK_EXCEPTION stands. -/
def State.settleFreeze (s : State) : State :=
  { s with link := { s.link with
      frozen := s.alerts.unmasked .linkException && s.alerts.latched.contains linkExceptionKey } }

/-- Every present condition whose kind R24 lists falls: kind by kind in the table's order, each in ascending
subject order. -/
def State.lowerTableBound (s : State) : State :=
  (s.alerts.present.filter (fun k => decide (k.kind.code ≤ AlertKind.code .shoulderHalted))).foldl
    (fun s k => s.lower k) s

end Sys2Proof.Machine
end

