-- ==== Sys2Proof/Machine/Operands.lean ====
section
/-! DEFINITION. What the part reads out of received bytes: the class of a frame, the payloads of IVR, SGS, SGQ
and CXE replies, the orders, and the table records with their record checks. -/

namespace Sys2Proof.Machine

/-! ## Frames (R34, R180) -/

/-- A frame's class (R34). -/
inductive FrameClass where
  | valid
  | bad
  | wrong
  deriving DecidableEq, Repr

/-- The payload length field of a reply frame (R180). -/
def replyLength (bytes : List Byte) : Nat := byteAt bytes 4

/-- A reply frame without a coding error, at least its header and CRC long, with a good CRC and a payload
length that is within 0 to 60 and agrees with the bytes received (R34, R180). -/
def frameSound (codingError : Bool) (bytes : List Byte) : Bool :=
  !codingError && decide (7 ≤ bytes.length) &&
    decide (crcOf (bytes.take (bytes.length - 2)) = natOf (bytes.drop (bytes.length - 2))) &&
    decide (replyLength bytes ≤ Config.maxPayload) && decide (replyLength bytes = bytes.length - 7)

/-- The echoes of a reply frame are the exchange's address, kind and tag (R34, R180). -/
def echoes (x : ExchangeId) (bytes : List Byte) : Bool :=
  decide (byteAt bytes 0 = x.address) && decide (byteAt bytes 1 = x.kind.code) && decide (byteAt bytes 2 = x.tag)

/-- The class of a frame against an exchange (R34). -/
def classify (x : ExchangeId) (codingError : Bool) (bytes : List Byte) : FrameClass :=
  if !frameSound codingError bytes then .bad else if echoes x bytes then .valid else .wrong

/-- The class of a late frame against the last exchange started; with none since the hardware reset, whether
a sound frame is VALID or WRONG is a free value (R51, assumption 5). -/
def classifyLate (last : Option ExchangeId) (codingError : Bool) (bytes : List Byte) : FrameClass :=
  match last with
  | some x => classify x codingError bytes
  | none =>
    if !frameSound codingError bytes then .bad
    else if Config.lateClassBeforeFirstRequest bytes then .valid else .wrong

/-- What a VALID reply frame hands on: its station status byte and its payload (R35, R180). -/
def replyOf (bytes : List Byte) : Reply :=
  { status := bytes.getD 3 0, payload := (bytes.drop 5).take (bytes.length - 7) }

/-! ## Reply payloads (R181, R182) -/

/-- An IVR reply payload as Interval Reduction reads it (R182). -/
inductive IvrReading where
  | notHeld
  | held (interval : Nat) (lanes : List LaneValues)
  | unreadable
  deriving DecidableEq, Repr

/-- One lane record of 8 bytes (R181). -/
def laneValuesOf (bytes : List Byte) : LaneValues :=
  { nL := byteAt bytes 0, nG := byteAt bytes 1, p := byteAt bytes 2, tsum := fieldAt bytes 3 3,
    oms := fieldAt bytes 6 2 }

/-- `n` records of `size` bytes each, from the front of a run of bytes. -/
def recordsOf (size : Nat) : Nat → List Byte → List (List Byte)
  | 0, _ => []
  | n + 1, bytes => bytes.take size :: recordsOf size n (bytes.drop size)

/-- How an IVR reply payload reads (R182). -/
def readIvr (payload : List Byte) : IvrReading :=
  if payload = [0] then .notHeld
  else if decide (2 ≤ payload.length) && decide (byteAt payload 0 = 1) &&
      decide ((payload.length - 2) % 8 = 0) then
    .held (byteAt payload 1) ((recordsOf 8 ((payload.length - 2) / 8) (payload.drop 2)).map laneValuesOf)
  else .unreadable

/-- An SGS or SGQ reply as the composer reads it (R182): the driver status when the payload holds one, and
the displayed aspects when the aspect list is complete. -/
structure SignReading where
  status : Option DriverStatus
  shown : Option (List Displayed)
  deriving DecidableEq, Repr

/-- How a sign reply payload reads for a gantry (R182). -/
def readSign (d : GantryDesc) (payload : List Byte) : SignReading :=
  if payload.length < 3 then { status := none, shown := none }
  else
    let n := payload.length
    let flags := payload.getD (n - 1) 0
    { status := some { lampFaults := (laneSetOf (payload.getD (n - 2) 0)).filter (fun l => d.signedLanes.contains l),
                       inLocal := flags.getLsbD 0, supplyFault := flags.getLsbD 1 },
      shown :=
        if byteAt payload 0 = d.signedLanes.length ∧ n = byteAt payload 0 + 3 then
          some (((payload.drop 1).take (n - 3)).map (fun b => displayedOf b.toNat))
        else none }

/-! ## Orders (R184, R185) -/

/-- An order message of a CXE reply (R184). -/
structure OrderMessage where
  message : Byte
  kind : Byte
  body : List Byte
  deriving DecidableEq, Repr

/-- Up to `n` order messages from the front of a run of bytes; a message whose header or body would run past
the end ends the reading (R185). -/
def readMessages : Nat → List Byte → List OrderMessage
  | n + 1, m :: k :: len :: rest =>
    if len.toNat ≤ rest.length then
      { message := m, kind := k, body := rest.take len.toNat } :: readMessages n (rest.drop len.toNat)
    else []
  | _, _ => []

/-- The stated count of order messages; an empty payload carries none (R184). -/
def statedOrders (payload : List Byte) : Nat := byteAt payload 0

/-- What a QUERY asks for (R184). -/
inductive QuerySubject where
  | gantry (n : Nat)
  | station (n : Nat)
  | orders
  | counters
  | capture
  | paths
  deriving DecidableEq, Repr

/-- The orders of the order set, with their parts (R184). -/
inductive Order where
  | modeRun
  | modeStandby
  | tableLoad (sect length firstIndex : Nat) (records : List (List Byte))
  | tableCheck
  | restart
  | laneClose (id site : Nat) (lanes : List Nat) (cap : Nat)
  | carriagewayClose (id site cap : Nat)
  | shoulderOpen (id firstGantry lastGantry : Nat) (attested : Bool)
  | orderClear (id : Nat)
  | limitSet (id firstGantry lastGantry cap : Nat) (legend : Option Legend)
  | laneHealthClear (station lane : Nat)
  | inject (station lane : Nat) (values : LaneValues) (runLength : Nat)
  | pathForce (path : Nat)
  | pathMode (mode : PathMode)
  | counterReset
  | query (q : QuerySubject)
  | alertAck (scope : AckScope)
  | alertMask (kind : AlertKind) (masked : Bool)
  deriving DecidableEq, Repr

/-- The form of an order message as Centre Exchange judges it before handing the order on (R171, R185). -/
inductive OrderForm where
  /-- An order of valid form, under its kind. -/
  | order (kind : OrderKind) (o : Order)
  /-- Refused UNKNOWN_ORDER: under the kind UNKNOWN for an unknown code or selector, under its own kind for
  a body length that is not its kind's. -/
  | refuse (kind : OrderKind)
  /-- An ALERT ACK subject outside its kind's fixed range: refused BAD_LOCATION (R171). -/
  | badSubject
  deriving DecidableEq, Repr

/-- A cap byte above 250 is read as 250 (R185). -/
def capOf (b : Nat) : Nat := if 250 < b then 250 else b

/-- The record size of a section, by its code 1 to 5 (R184). -/
def recordSize (sect : Nat) : Option Nat := [28, 7, 11, 8, 1][sect - 1]?.filter (fun _ => decide (1 ≤ sect))

/-- The fixed range of an alert subject (R171): the numbers of its kind. -/
def subjectInRange (kind : AlertKind) (a b : Nat) : Bool :=
  match kind with
  | .signFault | .gantryUnsupported => decide (a < 32)
  | .stationLost => decide (a < 48)
  | .laneFault | .laneSuspect => decide (a < 48 ∧ b < 6)
  | .closureUnprotected | .shoulderHalted => decide (a < 12)
  | .pathDown => decide (1 ≤ a ∧ a ≤ 2)
  | .checkPathDisturbed | .countPeriod | .centreLinkLost | .orderOverrun | .linkException => true

/-- The entry an ALERT ACK's kind and subject name (R171, R183); a subject of a single kind is not read (R185).
DESIGN CHOICE (assumption 33): nor is the second byte of the subject of a one-number kind. -/
def subjectKey (kind : AlertKind) (a b : Nat) : AlertKey :=
  match kind with
  | .laneFault | .laneSuspect => alertKey kind a b
  | .checkPathDisturbed | .countPeriod | .centreLinkLost | .orderOverrun | .linkException => alertKey kind
  | _ => alertKey kind a

/-- An ALERT ACK's form (R171, R184). -/
def readAck (scope kind a b : Nat) : OrderForm :=
  match scope, alertKindOf kind with
  | 0, some k =>
    if subjectInRange k a b then .order .alertAck (.alertAck (.entry (subjectKey k a b))) else .badSubject
  | 1, some k => .order .alertAck (.alertAck (.kind k))
  | 2, _ => .order .alertAck (.alertAck .all)
  | _, _ => .refuse .unknown

/-- A QUERY's form (R171, R184). -/
def readQuery (subject number : Nat) : OrderForm :=
  match subject with
  | 1 => .order .query (.query (.gantry number))
  | 2 => .order .query (.query (.station number))
  | 3 => .order .query (.query .orders)
  | 4 => .order .query (.query .counters)
  | 5 => .order .query (.query .capture)
  | 6 => .order .query (.query .paths)
  | _ => .refuse .unknown

/-- A LIMIT SET's legend byte; a value other than 0, 5 or 6 names no choice (R185). -/
def readOrderLegend (b : Nat) : Option (Option Legend) :=
  if b = 0 then some none
  else if b = 5 then some (some .reducedVisibility)
  else if b = 6 then some (some .roadworks)
  else none

/-- A TABLE LOAD's form (R185): the section code first, an unknown one being left to R3's first check, then the
body length (assumption 17 for a body without a section code). -/
def readTableLoad (b : List Byte) : OrderForm :=
  match b with
  | [] => .refuse .tableLoad
  | sect :: _ =>
    match recordSize sect.toNat with
    | none => .order .tableLoad (.tableLoad sect.toNat (byteAt b 1) (byteAt b 2) [])
    | some size =>
      if b.length = 4 + byteAt b 3 * size then
        .order .tableLoad (.tableLoad sect.toNat (byteAt b 1) (byteAt b 2)
          (recordsOf size (byteAt b 3) (b.drop 4)))
      else .refuse .tableLoad

/-- An order whose body has its kind's length reads as `f` of the body; any other body length is refused under
the kind's own name (R185). -/
def withLength (kind : OrderKind) (n : Nat) (b : List Byte) (form : OrderForm) : OrderForm :=
  if b.length = n then form else .refuse kind

/-- The form of an order message (R171, R184, R185). DESIGN CHOICE (assumption 39): an ALERT MASK whose setting byte
is neither 1 MASKED nor 2 UNMASKED is refused as a selector that names no choice. -/
def readOrder (m : OrderMessage) : OrderForm :=
  let b := m.body
  match m.kind.toNat with
  | 1 => withLength .modeOrder 1 b
      (match byteAt b 0 with
       | 1 => .order .modeOrder .modeRun
       | 2 => .order .modeOrder .modeStandby
       | _ => .refuse .unknown)
  | 2 => readTableLoad b
  | 3 => withLength .tableCheck 0 b (.order .tableCheck .tableCheck)
  | 4 => withLength .restart 0 b (.order .restart .restart)
  | 5 => withLength .laneClose 5 b
      (.order .laneClose (.laneClose (fieldAt b 0 2) (byteAt b 2) (laneSetOf (b.getD 3 0)) (capOf (byteAt b 4))))
  | 6 => withLength .carriagewayClose 4 b
      (.order .carriagewayClose (.carriagewayClose (fieldAt b 0 2) (byteAt b 2) (capOf (byteAt b 3))))
  | 7 => withLength .shoulderOpen 5 b
      (.order .shoulderOpen
        (.shoulderOpen (fieldAt b 0 2) (byteAt b 2) (byteAt b 3) (decide (byteAt b 4 = 1))))
  | 8 => withLength .orderClear 2 b (.order .orderClear (.orderClear (fieldAt b 0 2)))
  | 9 => withLength .limitSet 6 b
      (match readOrderLegend (byteAt b 5) with
       | some legend =>
         .order .limitSet (.limitSet (fieldAt b 0 2) (byteAt b 2) (byteAt b 3) (capOf (byteAt b 4)) legend)
       | none => .refuse .unknown)
  | 10 => withLength .laneHealthClear 2 b
      (.order .laneHealthClear (.laneHealthClear (byteAt b 0) (byteAt b 1)))
  | 11 => withLength .inject 11 b
      (.order .inject (.inject (byteAt b 0) (byteAt b 1) (laneValuesOf (b.drop 2)) (byteAt b 10)))
  | 12 => withLength .pathForce 1 b (.order .pathForce (.pathForce (byteAt b 0)))
  | 13 => withLength .pathModeOrder 1 b
      (match byteAt b 0 with
       | 1 => .order .pathModeOrder (.pathMode .dual)
       | 2 => .order .pathModeOrder (.pathMode .single)
       | _ => .refuse .unknown)
  | 14 => withLength .counterReset 0 b (.order .counterReset .counterReset)
  | 15 => withLength .query 2 b (readQuery (byteAt b 0) (byteAt b 1))
  | 16 => withLength .alertAck 4 b (readAck (byteAt b 0) (byteAt b 1) (byteAt b 2) (byteAt b 3))
  | 17 => withLength .alertMask 2 b
      (match alertKindOf (byteAt b 0), byteAt b 1 with
       | some k, 1 => .order .alertMask (.alertMask k true)
       | some k, 2 => .order .alertMask (.alertMask k false)
       | _, _ => .refuse .unknown)
  | _ => .refuse .unknown

/-! ## Table records (R5 to R11, R184) -/

/-- A multiple of 10 km/h from 20 to 120 (R7, R9, R10). -/
def isLimitValue (v : Nat) : Bool := decide (20 ≤ v ∧ v ≤ 120 ∧ v % 10 = 0)

/-- A limit field that may hold NL, from its byte (R9, R179). -/
def limitField (b : Nat) : Limit := if b = 255 then .nl else .kmh b

/-- A strictly ascending list (R7). -/
def ascending : List Nat → Bool
  | a :: b :: rest => decide (a < b) && ascending (b :: rest)
  | _ => true

/-- The position, from 1, of the first field whose check fails, in the order of the section's field table (R3). -/
def firstFailing (checks : List Bool) : Option Nat := (checks.findIdx? (fun ok => !ok)).map (· + 1)

/-- The Display Set field: a count byte and 11 member bytes (R7, R184). -/
def displaySetField (bytes : List Byte) : List Nat := ((bytes.drop 1).take (byteAt bytes 0)).map BitVec.toNat

/-- A number lies in a closed range. -/
def inRange (lo hi v : Nat) : Bool := decide (lo ≤ v ∧ v ≤ hi)

/-- A Segment Parameters record of 28 bytes, or the position of its first failing field (R5, R7, R184). -/
def readParams (b : List Byte) : Params ⊕ Nat :=
  let ds := displaySetField (b.drop 6)
  match firstFailing
    [inRange 10 60 (byteAt b 0), inRange 2 58 (byteAt b 1), inRange 1 20 (byteAt b 2), inRange 0 1 (byteAt b 3),
     inRange 1 10 (byteAt b 4), inRange 10 40 (byteAt b 5) && decide (byteAt b 5 % 10 = 0),
     inRange 1 11 (byteAt b 6) && ds.all isLimitValue && ascending ds,
     inRange 2 15 (byteAt b 18), inRange 1 127 (byteAt b 19), inRange 200 800 (fieldAt b 20 2),
     inRange 10 200 (byteAt b 22), inRange 2 10 (byteAt b 23), inRange 30 300 (fieldAt b 24 2),
     inRange 10 120 (byteAt b 26), inRange 5 60 (byteAt b 27)] with
  | some n => .inr n
  | none => .inl
    { intervalLength := byteAt b 0, evaluationOffset := byteAt b 1, replyTimeout := byteAt b 2,
      lateGuard := decide (byteAt b 3 = 0), guardGap := byteAt b 4, step := byteAt b 5, displaySet := ds,
      faultPersistence := byteAt b 18, plausibilityThreshold := byteAt b 19, stoppedOccupancy := fieldAt b 20 2,
      clearOccupancy := byteAt b 22, startupEvaluations := byteAt b 23, refreshTime := fieldAt b 24 2,
      mergeHold := byteAt b 26, centreLossLimit := byteAt b 27 }

/-- A Station Table record of 7 bytes, or the position of its first failing field (R8, R184). -/
def readStation (b : List Byte) : StationDesc ⊕ Nat :=
  let d : StationDesc :=
    { address := byteAt b 0, spacing := fieldAt b 1 2, laneCount := byteAt b 3 % 128,
      shoulder := decide (128 ≤ byteAt b 3), governing := byteAt b 4, weight := byteAt b 5, hold := byteAt b 6 }
  match firstFailing
    [inRange 1 120 d.address, inRange 100 1000 d.spacing,
     inRange 1 6 d.laneCount && inRange 1 5 d.runningLanes, true, inRange 0 31 d.governing,
     inRange 1 8 d.weight, inRange 1 10 d.hold] with
  | some n => .inr n
  | none => .inl d

/-- The entries of a window of 3 bytes: it ends at its first entry of 255, and an entry other than 255 after
one fails (R184). -/
def windowField (entries : List Nat) : Option (List Nat) :=
  let w := entries.takeWhile (fun x => decide (x ≠ 255))
  if (entries.drop w.length).all (fun x => decide (x = 255)) then some w else none

/-- A window of 1 to 3 different station numbers (R9). -/
def windowOk : Option (List Nat) → Bool
  | some w => inRange 1 3 w.length && w.all (fun x => decide (x ≤ 47)) && decide w.Nodup
  | none => false

/-- A Gantry Map record of 11 bytes, or the position of its first failing field (R9, R184). -/
def readGantry (b : List Byte) : GantryDesc ⊕ Nat :=
  let flags := b.getD 1 0
  let window := windowField [byteAt b 5, byteAt b 6, byteAt b 7]
  match firstFailing
    [inRange 1 120 (byteAt b 0), inRange 2 5 (byteAt b 1 % 8), true,
     isLimitValue (byteAt b 2) || decide (byteAt b 2 = 255), inRange 10 900 (fieldAt b 3 2), windowOk window,
     true, true, inRange 0 6 (byteAt b 8), isLimitValue (byteAt b 9) || decide (byteAt b 9 = 255),
     inRange 1 10 (byteAt b 10)] with
  | some n => .inr n
  | none => .inl
    { address := byteAt b 0, lanes := byteAt b 1 % 8, shoulder := flags.getLsbD 3,
      gmax := limitField (byteAt b 2), dwell := fieldAt b 3 2, window := window.getD [],
      side := if flags.getLsbD 4 then .offside else .nearside, cascadeBreak := flags.getLsbD 5,
      fallback := byteAt b 8, startupLimit := limitField (byteAt b 9), unsupportedHold := byteAt b 10 }

/-- A band's legend field: NONE, CONGESTION or QUEUE_AHEAD (R10, R179). -/
def bandLegend (b : Nat) : Legend := if b = 1 then .congestion else if b = 2 then .queueAhead else .blank

/-- A Band Table record of 8 bytes, or the position of its first failing field (R10, R184). -/
def readBand (b : List Byte) : BandDesc ⊕ Nat :=
  match firstFailing
    [inRange 0 250 (byteAt b 0), inRange 0 250 (byteAt b 1), inRange 0 1000 (fieldAt b 2 2),
     inRange 0 1000 (fieldAt b 4 2), isLimitValue (byteAt b 6), inRange 0 2 (byteAt b 7)] with
  | some n => .inr n
  | none => .inl
    { von := byteAt b 0, voff := byteAt b 1, oon := fieldAt b 2 2, ooff := fieldAt b 4 2, limit := byteAt b 6,
      legend := bandLegend (byteAt b 7) }

/-- A Cycle Table record of 1 byte, or the position of its one field, the slot (R11, R184). -/
def readSlot (b : List Byte) : Slot ⊕ Nat :=
  match byteAt b 0 with
  | 192 => .inl .centre
  | 193 => .inl .command
  | 194 => .inl .spare
  | n => if n ≤ 47 then .inl (.station n) else .inr 1

/-- Records read in ascending index order: all of them, or the index and failing field of the first that fails
(R3). -/
def readRecords {α : Type} (read : List Byte → α ⊕ Nat) : Nat → List (List Byte) → List α ⊕ (Nat × Nat)
  | _, [] => .inl []
  | i, b :: rest =>
    match read b with
    | .inr n => .inr (i, n)
    | .inl r =>
      match readRecords read (i + 1) rest with
      | .inl rs => .inl (r :: rs)
      | .inr e => .inr e

end Sys2Proof.Machine
end

