-- ==== Sys2Proof/Machine/Reports.lean ====
section
/-! DEFINITION. The Report Queue: admission and departure (R97, R169), and the bytes of the report messages
(R183). -/

namespace Sys2Proof.Machine

/-! ## Bodies (R183) -/

/-- The detail bytes of a response (R183). -/
def Detail.bytes : Detail → List Byte
  | .absent => []
  | .cap c => [byteOf c]
  | .capSlot c n => [byteOf c, byteOf n]
  | .slot n => [byteOf n]
  | .runLength n => [byteOf n]
  | .table sect i item => [byteOf sect, byteOf i, byteOf item]
  | .register closures => [flagByte closures]
  | .gantryLane g l => [byteOf g, byteOf l]
  | .order id => twoBytes id
  | .station n => [byteOf n]

/-- The outcome's code (R183). -/
def Verdict.code : Verdict → Nat
  | .accepted => 0
  | .clamped => 1
  | .refused _ => 2

/-- The reason's code, 0 for absent (R179). -/
def Verdict.reasonCode : Verdict → Nat
  | .refused r => r.code
  | _ => 0

/-- The fields of an ORDER RESPONSE after its report number (R168, R183). -/
def Response.bytes (r : Response) : List Byte :=
  [r.message, r.kind.code, byteOf r.verdict.code, byteOf r.verdict.reasonCode, byteOf r.mode.code] ++ r.detail.bytes

/-- The body of a queue entry, after the fragment header (R183, R184). -/
def ReportBody.bytes : ReportBody → List Byte
  | .orderResponse r => r.bytes
  | .queryResult r items => r.bytes ++ items
  | .injectionResult r =>
    [byteOf r.station, byteOf r.lane, byteOf r.health.code, byteOf r.plausibility, byteOf r.takings]
  | .gantryNotice n =>
    let shown := n.confirmed.getD []
    [byteOf n.gantry, byteOf n.state.code, byteOf n.setSequence, legendByte n.legend, flagsOf n.failedLanes,
     byteOf shown.length] ++ shown.map (fun a => byteOf a.code)

/-- The class code of a queue entry (R183). -/
def ReportBody.classCode : ReportBody → Nat
  | .orderResponse _ => 16
  | .queryResult _ _ => 17
  | .injectionResult _ => 18
  | .gantryNotice _ => 19

/-- The body of an alert notice (R183). -/
def noticeBytes (n : CarriedNotice) : List Byte :=
  [byteOf n.key.kind.code, byteOf n.key.a, byteOf n.key.b, flagByte n.present ||| (flagByte n.latched <<< 1)]

/-- The three bytes of six 3-bit lane states, first lane in the top bits, 7 for no such lane (R183). -/
def laneStateBytes (states : List LaneState) : List Byte :=
  let codes := states.map LaneState.code ++ List.replicate (Config.maxLanes - states.length) 7
  threeBytes (codes.foldl (fun acc c => acc * 8 + c) 0 * 64)

/-- The 17 bytes of a STATION SUMMARY (R183). -/
def ClosedSummary.bytes (c : ClosedSummary) : List Byte :=
  [byteOf c.station, byteOf c.interval, flagByte c.taken ||| (flagByte c.valid <<< 1), byteOf c.poll.code,
   speedByte c.speed] ++ twoBytes c.occupancy ++ threeBytes c.flow ++
  [byteOf c.usable, speedByte c.controlling, byteOf c.stale, byteOf c.missed] ++ laneStateBytes c.laneStates

/-- A report message: class code, body length, body (R183). -/
def messageOf (classCode : Nat) (body : List Byte) : List Byte :=
  [byteOf classCode, byteOf body.length] ++ body

/-- The fragment header (R183): report number, then the offset with bit 15 set on the fragment that ends the
body. -/
def fragmentHeader (number offset : Nat) (ends : Bool) : List Byte :=
  twoBytes number ++ twoBytes (if ends then 32768 + offset else offset)

/-! ## Admission and departure (R97, R169) -/

/-- How many entries the Report Queue may hold for an entry of this kind to be admitted (R169). -/
def ReportBody.room : ReportBody → Nat
  | .gantryNotice _ => Config.gantryNoticeLimit
  | _ => Config.reportQueueSize

/-- The queue admits an entry of this kind now (R169). -/
def State.hasRoom (body : ReportBody) (s : State) : Bool := decide (s.centre.queue.length < body.room)

/-- An offered entry joins the tail with the next report number, or is not admitted (R169). -/
def State.offerReport (body : ReportBody) (s : State) : State :=
  if s.hasRoom body then
    { s with centre := { s.centre with
        queue := s.centre.queue ++ [{ number := s.centre.nextReport, body := body, offset := 0 }],
        nextReport := (s.centre.nextReport + 1) % 65536 } }
  else s

/-- An INJECTION RESULT is offered as its run ends; not admitted, it waits on its lane (R97). -/
def State.offerResult (r : InjectionResult) (s : State) : State :=
  if s.hasRoom (.injectionResult r) then s.offerReport (.injectionResult r)
  else { s with waiting := s.waiting ++ [r] }

/-- The waiting results offered oldest first until one is not admitted: what is left, and the state (R97). -/
def offerFrom : List InjectionResult → State → State
  | [], s => { s with waiting := [] }
  | r :: rest, s =>
    if s.hasRoom (.injectionResult r) then offerFrom rest (s.offerReport (.injectionResult r))
    else { s with waiting := r :: rest }

/-- Detector Supervision offers its waiting results (R97). -/
def State.offerWaiting (s : State) : State := offerFrom s.waiting s

/-- The entry with a report number leaves the queue, if it is still there, and the waiting results are offered
before anything else is admitted (R97, R164, R169). -/
def State.departReport (number : Nat) (s : State) : State :=
  if s.centre.queue.any (fun r => r.number == number) then
    { s with centre := { s.centre with
        queue := s.centre.queue.filter (fun r => decide (r.number ≠ number)) } }.offerWaiting
  else s

/-- A partly carried entry's delivered offset moves to the offset reached (R184). -/
def State.advanceOffset (number offset : Nat) (s : State) : State :=
  { s with centre := { s.centre with
      queue := s.centre.queue.map (fun r => if r.number = number then { r with offset := offset } else r) } }

end Sys2Proof.Machine
end

