-- ==== Sys2Proof/Machine/Detectors.lean ====
section
/-! DEFINITION. Detector Supervision (chapter 06): exclusion, the four detectors, recovery, and injection runs,
within one taking of a station. -/

namespace Sys2Proof.Machine

/-- A lane's health for every purpose other than its own tests: in an injection run, the saved health (R96). -/
def LaneRec.health (r : LaneRec) : Health :=
  match r.run with
  | some run => run.saved.health
  | none => r.context.health

/-- What the tests of a lane read of another lane of its station (R85). -/
structure LaneReading where
  lane : Nat
  occupancy : Nat
  count : Nat
  test : Bool
  excluded : Bool
  health : Health
  deriving DecidableEq, Repr

/-- The readings of a station's lanes, with the excluded items as settled in this taking and the health as it
stood when the taking began (R85). -/
def readings (lanes : List (Nat × LaneRec)) : List LaneReading :=
  lanes.map (fun x =>
    { lane := x.1, occupancy := x.2.occupancy, count := x.2.count, test := x.2.test,
      excluded := x.2.context.excluded, health := x.2.health })

/-- Pair mismatch (R88). -/
def pairMismatch (v : LaneValues) : Bool :=
  decide (max 2 (v.nL / 8) < max (v.nL - v.nG) (v.nG - v.nL))

/-- Implausible values (R88). -/
def implausible (v : LaneValues) (speed : Option Nat) (occupancy : Nat) : Bool :=
  decide (v.nL < v.p) ||
  match speed with
  | some vi => decide (200 < vi) || decide (1 ≤ v.p ∧ 600 ≤ occupancy ∧ 100 ≤ vi)
  | none => false

/-- The stuck-on condition, against the other lanes (R89). -/
def stuckOn (occupancy count : Nat) (others : List LaneReading) : Bool :=
  decide (950 ≤ occupancy) && decide (count ≤ 1) && others.any (fun x => !x.test && decide (x.occupancy < 150))

/-- The silent condition, against the other lanes (R90). -/
def silentLane (occupancy count : Nat) (others : List LaneReading) : Bool :=
  decide (count = 0) && decide (occupancy = 0) &&
    others.any (fun x => !x.test && !x.excluded && decide (x.health = .ok) && decide (10 ≤ x.count))

/-- Step 1 of a lane's test: the plausibility counter (R88). -/
def settlePlausibility (v : LaneValues) (speed : Option Nat) (occupancy plausibility : Nat) : Nat :=
  if pairMismatch v || implausible v speed occupancy then min 127 (plausibility + 1) else plausibility

/-- Step 3 for a lane that was OK or SUSPECT, after step 1 (R91). -/
def settleSound (par : Params) (stuck silent : Bool) (c : HealthContext) : HealthContext :=
  let stuckCount := if stuck then c.stuck + 1 else 0
  let silentCount := if silent then c.silent + 1 else 0
  if par.faultPersistence ≤ stuckCount ∨ par.faultPersistence ≤ silentCount then
    { c with health := .fault, stuck := 0, silent := 0, normalRun := 0 }
  else
    { c with stuck := stuckCount, silent := silentCount,
             health := if c.health = .ok ∧ par.plausibilityThreshold ≤ c.plausibility then .suspect else c.health }

/-- Step 3 for a lane that was in FAULT, after step 1 (R92). -/
def settleFaulty (par : Params) (stuck silent : Bool) (c : HealthContext) : HealthContext :=
  if stuck || silent then { c with normalRun := 0 }
  else if Config.normalRunLength ≤ c.normalRun + 1 then
    { c with normalRun := 0, health := if par.plausibilityThreshold ≤ c.plausibility then .suspect else .ok }
  else { c with normalRun := c.normalRun + 1 }

/-- The whole test of a lane, on a health context (R85, R88 to R92). -/
def testLane (par : Params) (v : LaneValues) (speed : Option Nat) (occupancy count : Nat)
    (others : List LaneReading) (c : HealthContext) : HealthContext :=
  let c1 := { c with plausibility := settlePlausibility v speed occupancy c.plausibility }
  let stuck := stuckOn occupancy count others
  let silent := silentLane occupancy count others
  if c.health = .fault then settleFaulty par stuck silent c1 else settleSound par stuck silent c1

/-- Stage 3 for one lane, its excluded item already settled: an excluded lane outside a run is not tested; a
lane in a run is tested on its test context, and the run advances (R87, R96). -/
def superviseLane (par : Params) (others : List LaneReading) (r : LaneRec) : LaneRec :=
  match r.values with
  | none => r
  | some v =>
    match r.run with
    | some run =>
      { r with run := some { run with
          test := testLane par v r.speed r.occupancy r.count others run.test,
          remaining := run.remaining - 1, takings := run.takings + 1 } }
    | none =>
      if r.context.excluded then r
      else { r with context := testLane par v r.speed r.occupancy r.count others r.context }

/-- A run whose remaining length has reached 0 forms its result, and the saved context becomes the lane's
(R97). -/
def endRun (station lane : Nat) (r : LaneRec) : LaneRec × Option InjectionResult :=
  match r.run with
  | some run =>
    if run.remaining = 0 then
      ({ r with context := run.saved, run := none },
       some { station, lane, health := run.test.health, plausibility := run.test.plausibility,
              takings := run.takings })
    else (r, none)
  | none => (r, none)

/-- A lane's state in the summary: the first of FAULT, SUSPECT, TEST and EXCLUDED that applies (R82). -/
def laneState (r : LaneRec) : LaneState :=
  if r.health = .fault then .fault
  else if r.health = .suspect then .suspect
  else if r.test then .test
  else if r.context.excluded then .excluded
  else .usable

/-- A lane is usable: health OK, neither excluded nor TEST (R73). -/
def LaneRec.usable (r : LaneRec) : Bool := decide (r.health = .ok) && !r.context.excluded && !r.test

/-- The conditions of a health: LANE_FAULT or LANE_SUSPECT (R93). -/
def healthKeys (station lane : Nat) : Health → List AlertKey
  | .ok => []
  | .suspect => [alertKey .laneSuspect station lane]
  | .fault => [alertKey .laneFault station lane]

/-- The changes of health of some lanes, each with its number and its health before and after, reported: the
falls before the rises, each in ascending subject order (R93, R174). -/
def State.reportHealth (station : Nat) (changes : List (Nat × Health × Health)) (s : State) : State :=
  let changed := changes.filter (fun x => decide (x.2.1 ≠ x.2.2))
  s.reportAll (changed.flatMap (fun x => healthKeys station x.1 x.2.1))
    (changed.flatMap (fun x => healthKeys station x.1 x.2.2))

/-- The confirmed aspect of a lane number at the governing gantry is CLOSED (R86). -/
def State.confirmedClosed (gantry lane : Nat) (s : State) : Bool :=
  match (s.deliveryRec gantry).confirmed with
  | some shown => decide (onLane (s.tables.gantry gantry) shown lane = some (.shows .closed))
  | none => false

/-- A station's lane records in R8 order, each with its lane number. -/
def StationRec.laneRecs (d : StationDesc) (r : StationRec) : List (Nat × LaneRec) :=
  d.laneList.map (fun l => (l, r.lane l))

/-- Lane records replaced by number. -/
def StationRec.putLanes (r : StationRec) (lanes : List (Nat × LaneRec)) : StationRec :=
  { r with lanes := lanes.foldl (fun ls x => ls.set x.1 x.2) r.lanes }

/-- Stage 3 of a taking (R85): the excluded items, then the tests, then the reports of changed health, then
the runs that end, whose results are offered in lane order (R97). -/
def State.supervise (station : Nat) (s : State) : State :=
  let d := s.tables.station station
  let before := (s.stationRec station).laneRecs d
  let settled := before.map (fun x =>
    (x.1, { x.2 with context := { x.2.context with excluded := s.confirmedClosed d.governing x.1 } }))
  let tested := settled.map (fun x =>
    (x.1, superviseLane s.par ((readings settled).filter (fun y => decide (y.lane ≠ x.1))) x.2))
  let ended := tested.map (fun x => (x.1, endRun station x.1 x.2))
  let final := ended.map (fun x => (x.1, { x.2.1 with lastState := laneState x.2.1 }))
  let s1 := s.setStation station ((s.stationRec station).putLanes final)
  let s2 := s1.reportHealth station ((before.zip final).map (fun x => (x.1.1, x.1.2.health, x.2.2.health)))
  (ended.filterMap (fun x => x.2.2)).foldl (fun s r => s.offerResult r) s2

/-- The lane has a waiting result (R84, R97). -/
def State.hasWaiting (station lane : Nat) (s : State) : Bool :=
  s.waiting.any (fun r => r.station == station && r.lane == lane)

/-- The station is of the segment and the lane is one of its lanes (R94, R95). -/
def State.hasLane (station lane : Nat) (s : State) : Bool :=
  decide (station < s.stationCount) && (s.tables.station station).laneList.contains lane

/-- An accepted LANE HEALTH CLEAR: health OK and every count 0; the excluded item stands (R94). -/
def State.clearLane (station lane : Nat) (s : State) : State :=
  let r := s.stationRec station
  let l := r.lane lane
  let cleared := { l with context := { HealthContext.empty with excluded := l.context.excluded } }
  (s.setStation station { r with lanes := r.lanes.set lane cleared }).reportHealth station
    [(lane, l.health, .ok)]

/-- The run length an INJECT is accepted with (R95). -/
def runLength (n : Nat) : Nat := if n = 0 then 1 else min 15 n

/-- An accepted INJECT: the run context, with two copies of the health context (R95). -/
def State.startRun (station lane : Nat) (values : LaneValues) (length : Nat) (s : State) : State :=
  let r := s.stationRec station
  let l := r.lane lane
  let run : InjectionRun :=
    { values, remaining := length, takings := 0, saved := l.context, test := l.context }
  s.setStation station { r with lanes := r.lanes.set lane { l with run := some run } }

end Sys2Proof.Machine
end

