-- ==== Sys2Proof/Machine/Measurement.lean ====
section
/-! DEFINITION. Interval Reduction (chapter 05): judging IVR replies, the taking, the lane and station
arithmetic, smoothing, counts and the interval close. -/

namespace Sys2Proof.Machine

/-! ## Arithmetic (R71 to R76) -/

/-- A speed from a loop spacing, matched vehicles and transit time: at most 250 km/h (R71, R73). -/
def speedOf (spacing matched transit : Nat) : Nat := min 250 (360 * spacing * matched / transit)

/-- A lane's speed (R71). -/
def laneSpeed (spacing : Nat) (v : LaneValues) : Option Nat :=
  if 1 ≤ v.p ∧ 1 ≤ v.tsum then some (speedOf spacing v.p v.tsum) else none

/-- A lane's occupancy (R72). -/
def laneOccupancy (intervalLength : Nat) (v : LaneValues) : Nat := min 1000 (v.oms / intervalLength)

/-- The values used of a lane, zero when it has none. -/
def LaneRec.used (r : LaneRec) : LaneValues := r.values.getD { nL := 0, nG := 0, p := 0, tsum := 0, oms := 0 }

/-- A station's occupancy: the largest among its usable lanes, 0 when none is usable (R74). -/
def stationOccupancy (usable : List LaneRec) : Nat := (usable.map LaneRec.occupancy).foldl max 0

/-- A station's speed over its usable lanes (R73). -/
def stationSpeed (par : Params) (spacing : Nat) (usable : List LaneRec) : Option Nat :=
  let matched := (usable.map (fun r => r.used.p)).sum
  let transit := (usable.map (fun r => r.used.tsum)).sum
  if 1 ≤ matched ∧ 1 ≤ transit then some (speedOf spacing matched transit)
  else if matched = 0 ∧ par.stoppedOccupancy ≤ stationOccupancy usable then some 0
  else none

/-- A station's flow over its usable lanes (R74). -/
def stationFlow (par : Params) (usable : List LaneRec) : Nat :=
  (usable.map (fun r => r.used.nL)).sum * 3600 / par.intervalLength

/-- The smoothed speed after a sample, for a seeded station: truncated toward zero (R75). -/
def smooth (smoothed sample weight : Nat) : Nat :=
  ((smoothed : Int) + (((16 * sample : Nat) - smoothed : Int) * weight).tdiv 8).toNat

/-- A station's controlling speed (R76). -/
def StationRec.controlling (r : StationRec) : Nat := r.smoothed / 16

/-- A station is valid for control (R79). -/
def StationRec.valid (d : StationDesc) (r : StationRec) : Bool := r.seeded && decide (r.stale < d.hold)

/-- STATION_LOST of a station (R80). A record's hold is at least 1 (R8); a place without a record holds no
condition. -/
def StationRec.lost (d : StationDesc) (r : StationRec) : Bool := decide (1 ≤ d.hold ∧ d.hold ≤ r.missed)

/-! ## The taking (R70) -/

/-- Stages 1 and 2 for one lane: substitution and the lane values (R70 to R72). -/
def takeLane (par : Params) (d : StationDesc) (reported : LaneValues) (r : LaneRec) : LaneRec :=
  let v := match r.run with
    | some run => run.values
    | none => reported
  { r with values := some v, test := r.run.isSome, speed := laneSpeed d.spacing v,
           occupancy := laneOccupancy par.intervalLength v, count := v.nL }

/-- Stages 4 to 6 on a Station Record whose lanes are supervised (R73 to R77). -/
def StationRec.reduce (par : Params) (d : StationDesc) (r : StationRec) : StationRec :=
  let usable := ((r.laneRecs d).map Prod.snd).filter LaneRec.usable
  let speed := stationSpeed par d.spacing usable
  { r with
    taken := true,
    poll := .taken,
    speed := speed,
    occupancy := stationOccupancy usable,
    flow := stationFlow par usable,
    usable := usable.length,
    smoothed := match speed with
      | none => r.smoothed
      | some v => if r.seeded then smooth r.smoothed v d.weight else 16 * v,
    seeded := r.seeded || speed.isSome,
    missed := 0,
    stale := if 1 ≤ usable.length then 0 else min 255 (r.stale + 1) }

/-- A taking of a station (R70). -/
def State.take (n : Nat) (reported : List LaneValues) (s : State) : State :=
  let d := s.tables.station n
  let r := s.stationRec n
  let lanes := (d.laneList.zip reported).map (fun x => (x.1, takeLane s.par d x.2 (r.lane x.1)))
  let s1 := (s.setStation n (r.putLanes lanes)).supervise n
  let r' := (s1.stationRec n).reduce s.par d
  (s1.setStation n r').reportChange (alertKey .stationLost n) (r.lost d) (r'.lost d)

/-! ## Judging (R68) -/

/-- The station of the segment with an address on the Segment Link (R68). -/
def State.stationAt (address : Nat) (s : State) : Option Nat :=
  (List.range s.stationCount).find? (fun n => (s.tables.station n).address == address)

/-- A judgement written as the station's last poll result, with the status byte of a reply handed over (R68). -/
def State.notePoll (n : Nat) (p : PollResult) (reply : Option Reply) (s : State) : State :=
  let r := s.stationRec n
  s.setStation n { r with poll := p, status := (reply.map Reply.status).or r.status }

/-- The judgement of an IVR exchange of a station of the segment, in an open interval (R68). -/
def State.judgeOpen (n : Nat) (reply : Option Reply) (s : State) : State :=
  match reply with
  | none => s.notePoll n .failed none
  | some r =>
    if (s.stationRec n).taken then s.notePoll n .discarded reply
    else
      match readIvr r.payload with
      | .unreadable => s.notePoll n .malformed reply
      | .notHeld => s.notePoll n .notHeld reply
      | .held k lanes =>
        if k ≠ s.sequencer.interval then s.notePoll n .wrongInterval reply
        else if lanes.length ≠ (s.tables.station n).laneList.length then s.notePoll n .malformed reply
        else (s.notePoll n .taken reply).take n lanes

/-- The end of an IVR exchange to an address, with the reply taken or none (R68, R69). -/
def State.judgeIvr (address : Nat) (reply : Option Reply) (s : State) : State :=
  match s.stationAt address with
  | none => s
  | some n =>
    if s.mode = .unconfigured then s
    else if s.intervalOpen then s.judgeOpen n reply
    else s.setStation n { s.stationRec n with poll := .discarded }

/-! ## Opening and close (R67, R78) -/

/-- The opening of an interval clears every Taken item (R67). -/
def State.openInterval (s : State) : State :=
  { s with stations := s.stations.map (fun r => { r with taken := false }) }

/-- The first stage of a close for one station: the counts of a station not taken (R78). -/
def StationRec.missInterval (r : StationRec) : StationRec :=
  if r.taken then r else { r with stale := min 255 (r.stale + 1), missed := min 255 (r.missed + 1) }

/-- The second stage: a new entry at the head of every occupancy history (R78). -/
def LaneRec.noteHistory (taken : Bool) (r : LaneRec) : LaneRec :=
  { r with history := ((if taken then some r.occupancy else none) :: r.history).take 2 }

/-- The closed summary of a station for interval k (R82). -/
def StationRec.summarise (n k : Nat) (d : StationDesc) (r : StationRec) : ClosedSummary :=
  { station := n, interval := k, taken := r.taken, poll := r.poll, speed := r.speed, occupancy := r.occupancy,
    flow := r.flow, usable := r.usable, controlling := if r.seeded then some r.controlling else none,
    valid := r.valid d, stale := r.stale, missed := r.missed,
    laneStates := (r.laneRecs d).map (fun x => x.2.lastState) }

/-- The first three stages of a close for one station (R78). -/
def StationRec.close (n k : Nat) (d : StationDesc) (r : StationRec) : StationRec :=
  let r1 := r.missInterval
  let r2 := r1.putLanes ((r1.laneRecs d).map (fun x => (x.1, x.2.noteHistory r.taken)))
  { r2 with summary := some (r2.summarise n k d) }

/-- Interval Reduction's close of the current interval (R78): every station of the segment, then the changes
of STATION_LOST, then the request for a band evaluation in STARTUP and ACTIVE. -/
def State.closeReduction (s : State) : State :=
  let k := s.sequencer.interval
  let n := s.stationCount
  let stations := s.stations.mapIdx (fun i r => if i < n then r.close i k (s.tables.station i) else r)
  let s1 : State := { s with stations := stations }
  let s2 := (List.range n).foldl (fun t i =>
    t.reportChange (alertKey .stationLost i) ((s.stationRec i).lost (s.tables.station i))
      ((s1.stationRec i).lost (s.tables.station i))) s1
  if s.signing then { s2 with evaluationsAsked := s2.evaluationsAsked + 1 } else s2

/-- Every record emptied (R66, R84). -/
def State.emptyRecords (s : State) : State :=
  { s with stations := List.replicate Config.maxStations .empty, waiting := [] }

end Sys2Proof.Machine
end

