-- ==== Sys2Proof/Machine/Speed.lean ====
section
/-! DEFINITION. Speed Control (chapter 07): band evaluation, the Limit Order Register, and the demanded limit
with its cascade and dwell. -/

namespace Sys2Proof.Machine

/-! ## Answers to orders (R166, R168) -/

/-- What an order is answered: the outcome, its detail, and the result items of an accepted query. -/
structure Answer where
  verdict : Verdict
  detail : Detail
  items : Option (List Byte)
  deriving DecidableEq, Repr

/-- ACCEPTED, with a detail. -/
def accepted (detail : Detail := .absent) : Answer := { verdict := .accepted, detail, items := none }

/-- ACCEPTED or ACCEPTED_CLAMPED, with a detail. -/
def acceptedOrClamped (clamped : Bool) (detail : Detail) : Answer :=
  { verdict := if clamped then .clamped else .accepted, detail, items := none }

/-- REFUSED with a reason, and a detail. -/
def refused (r : Reason) (detail : Detail := .absent) : Answer := { verdict := .refused r, detail, items := none }

/-- ACCEPTED with the items of a query's result. -/
def queried (items : List Byte) : Answer := { verdict := .accepted, detail := .absent, items := some items }

/-! ## Band evaluation (R100 to R104) -/

/-- The valid window stations of a gantry (R101). -/
def State.validWindow (g : Nat) (s : State) : List Nat :=
  (s.tables.gantry g).window.filter (fun n => (s.stationRec n).valid (s.tables.station n))

/-- A band's onset holds (R103). -/
def BandDesc.onset (b : BandDesc) (vc oc : Nat) : Bool := decide (vc < b.von) || decide (b.oon ≤ oc)

/-- A band's release holds (R103). -/
def BandDesc.release (b : BandDesc) (vc oc : Nat) : Bool := decide (b.voff ≤ vc) && decide (oc < b.ooff)

/-- The highest band whose onset holds, 0 when none does (R103). -/
def Tables.highestOnset (t : Tables) (vc oc : Nat) : Nat :=
  (List.range' 1 t.bands.length).foldl (fun u b =>
    match t.band b with
    | some d => if d.onset vc oc then b else u
    | none => u) 0

/-- The band after a supported evaluation (R103). -/
def Tables.settleBand (t : Tables) (vc oc c : Nat) : Nat :=
  let u := t.highestOnset vc oc
  if c < u then u
  else
    match t.band c with
    | some b => if b.release vc oc then c - 1 else c
    | none => c

/-- GANTRY_UNSUPPORTED of a gantry (R104). A record's hold is at least 1 (R9); a place without a record holds no
condition. -/
def GantryControl.isUnsupported (d : GantryDesc) (c : GantryControl) : Bool :=
  decide (1 ≤ d.unsupportedHold ∧ d.unsupportedHold ≤ c.unsupported)

/-- A gantry's control record after a band evaluation (R101 to R103). -/
def State.evaluateGantry (g : Nat) (s : State) : GantryControl :=
  let d := s.tables.gantry g
  let c := s.gantryControl g
  match s.validWindow g with
  | [] =>
    if d.unsupportedHold ≤ c.unsupported then c
    else if d.unsupportedHold ≤ c.unsupported + 1 then
      { c with unsupported := c.unsupported + 1, band := d.fallback }
    else { c with unsupported := c.unsupported + 1 }
  | n :: rest =>
    let vc := (rest.map (fun m => (s.stationRec m).controlling)).foldl min (s.stationRec n).controlling
    let oc := (rest.map (fun m => (s.stationRec m).occupancy)).foldl max (s.stationRec n).occupancy
    { c with unsupported := 0, band := s.tables.settleBand vc oc c.band }

/-- A band evaluation of every gantry of the segment, with the falls and rises of GANTRY_UNSUPPORTED (R100,
R104, R174), and the pass it requests from the most downstream gantry. -/
def State.evaluateBands (s : State) : State :=
  let n := s.gantryCount
  let control := s.control.mapIdx (fun g c => if g < n then s.evaluateGantry g else c)
  let s1 : State := { s with control := control }
  let was (g : Nat) : Bool := (s.gantryControl g).isUnsupported (s.tables.gantry g)
  let is (g : Nat) : Bool := (s1.gantryControl g).isUnsupported (s.tables.gantry g)
  let falls := (List.range n).filter (fun g => was g && !is g)
  let rises := (List.range n).filter (fun g => !was g && is g)
  (s1.reportAll (falls.map (alertKey .gantryUnsupported ·)) (rises.map (alertKey .gantryUnsupported ·))).requestPass
    s.lastGantry

/-! ## What a band and the register supply (R105, R111) -/

/-- The band limit (R105). -/
def Tables.bandLimit (t : Tables) (c : Nat) : Limit :=
  match t.band c with
  | some b => .kmh b.limit
  | none => .nl

/-- The band legend (R105). -/
def Tables.bandLegend (t : Tables) (c : Nat) : Legend :=
  match t.band c with
  | some b => b.legend
  | none => .blank

/-- The limit orders covering a gantry, in register order (R111). -/
def State.coveringOrders (g : Nat) (s : State) : List LimitOrder :=
  s.limitOrders.filter (fun o => decide (o.firstGantry ≤ g ∧ g ≤ o.lastGantry))

/-! ## The demanded limit (R112 to R116) -/

/-- The limit that the band stage gives a gantry: the band limit, in STARTUP the startup limit (R25, R113). -/
def State.stageLimit (g : Nat) (s : State) : Limit :=
  if s.mode = .startup then (s.tables.gantry g).startupLimit else s.tables.bandLimit (s.gantryControl g).band

/-- The local limit (R113). -/
def State.localLimit (g : Nat) (closureCaps : List Nat) (s : State) : Limit :=
  s.par.least (s.stageLimit g)
    ((s.tables.gantry g).gmax :: (s.coveringOrders g).map (fun o => .kmh o.cap) ++ closureCaps.map Limit.kmh)

/-- The governor search from a gantry, at most `fuel` gantries on (R114). -/
def State.governorFrom (s : State) : Nat → Nat → Option Nat
  | 0, _ => none
  | fuel + 1, h =>
    if (s.tables.gantry h).cascadeBreak then none
    else if s.gantryCount ≤ h + 1 then none
    else if (s.deliveryRec (h + 1)).state.out then s.governorFrom fuel (h + 1)
    else some (h + 1)

/-- The governor of a gantry (R114). -/
def State.governor (g : Nat) (s : State) : Option Nat := s.governorFrom s.gantryCount g

/-- The cascade bound of a gantry, if it has one (R114). -/
def State.cascadeBound (g : Nat) (s : State) : Option Nat :=
  match s.governor g with
  | none => none
  | some h => (s.gantryControl h).demanded.map (fun l => s.par.value l + s.par.step)

/-- The largest-valued of the Display Set and NL within a ceiling, or the smallest member (R115). -/
def Params.candidate (p : Params) (ceiling : Nat) : Limit :=
  if p.value .nl ≤ ceiling then .nl
  else
    match (p.displaySet.filter (· ≤ ceiling)).getLast? with
    | some v => .kmh v
    | none => .kmh (p.displaySet.headD 0)

/-- The candidate of a gantry (R115). -/
def State.candidate (g : Nat) (closureCaps : List Nat) (s : State) : Limit :=
  let localValue := s.par.value (s.localLimit g closureCaps)
  s.par.candidate (match s.cascadeBound g with
    | some b => min localValue b
    | none => localValue)

/-- The dwell decision (R116). -/
def GantryControl.settleDwell (p : Params) (dwell : Nat) (candidate : Limit) (c : GantryControl) : GantryControl :=
  let take : GantryControl :=
    { c with demanded := some candidate, pendingIncrease := false,
             dwell := if c.demanded = some candidate then c.dwell else dwell * 1000 }
  match c.demanded with
  | none => take
  | some l =>
    if p.value l < p.value candidate ∧ 0 < c.dwell then { c with pendingIncrease := true } else take

/-- Speed Control settles a gantry's demanded limit at a visit (R112). -/
def State.settleDemand (g : Nat) (closureCaps : List Nat) (s : State) : State :=
  s.setControl g ((s.gantryControl g).settleDwell s.par (s.tables.gantry g).dwell (s.candidate g closureCaps))

/-! ## Dwell expiry (R117) -/

/-- A dwell timer has reached 0: the event is taken (R117). A timer that has run down and been loaded again
since runs on. -/
def GantryControl.expire (c : GantryControl) : GantryControl :=
  { c with dwell := if c.expiryDue then c.dwell else 0, expiryDue := false }

/-- The expiry of a gantry's dwell timer requests a pass from the gantry when its pending-increase flag is set
(R117). -/
def State.expireDwell (g : Nat) (s : State) : State :=
  let c := s.gantryControl g
  let s1 := s.setControl g c.expire
  if c.pendingIncrease then s1.requestPass g else s1

/-! ## Limit orders (R106 to R110) -/

/-- The register that holds an id: `false` the Limit Order Register, `true` the Closure Register (R107, R121). -/
def State.idHeldBy (id : Nat) (s : State) : Option Bool :=
  if s.limitOrders.any (fun o => o.id == id) then some false
  else if s.closures.register.any (fun c => c.id == id) then some true
  else none

/-- LIMIT SET (R107 to R109). -/
def State.limitSet (id firstGantry lastGantry requested : Nat) (legend : Option Legend) (s : State) :
    State × Answer :=
  if s.mode = .unconfigured then (s, refused .wrongMode)
  else if id = 0 then (s, refused .unknownOrder)
  else
    match s.idHeldBy id with
    | some closures => (s, refused .duplicateId (.register closures))
    | none =>
      if Config.limitRegisterSize ≤ s.limitOrders.length then (s, refused .registerFull (.register false))
      else if lastGantry < firstGantry ∨ s.gantryCount ≤ lastGantry then (s, refused .badLocation)
      else
        let cap := s.par.settleCap requested
        let s1 : State :=
          { s with limitOrders := s.limitOrders ++ [{ id, firstGantry, lastGantry, cap := cap.1, legend }] }
        (s1.requestPass lastGantry, acceptedOrClamped cap.2 (.cap cap.1))

/-- ORDER CLEAR of a limit order (R110). -/
def State.clearLimit (id : Nat) (s : State) : State × Answer :=
  match s.limitOrders.find? (fun o => o.id == id) with
  | none => (s, refused .noSuchOrder)
  | some o =>
    let s1 : State := { s with limitOrders := s.limitOrders.filter (fun x => decide (x.id ≠ id)) }
    (s1.requestPass o.lastGantry, accepted)

/-- Speed Control's records and register after RESTART, a return to UNCONFIGURED or a reset (R99, R106). -/
def State.resetSpeed (s : State) : State :=
  { s with control := List.replicate Config.maxGantries .reset, limitOrders := [] }

/-- Speed Control at an entry to STANDBY from STARTUP or ACTIVE (R21, R99). -/
def State.stopDemands (s : State) : State :=
  { s with control := s.control.map (fun c => 
    { c with demanded := none, dwell := 0, pendingIncrease := false, expiryDue := false }) }

end Sys2Proof.Machine
end

