-- ==== Sys2Proof/Machine/Closures.lean ====
section
/-! DEFINITION. The Closure Unit (chapter 08): acceptance and clearing, effective sites, contributions, and the
staged opening and closing of the shoulder. -/

namespace Sys2Proof.Machine

/-! ## The register and the lists (R119, R120) -/

/-- A road closure's lanes among the signed lanes of a gantry: every lane for the carriageway kind (R120). -/
def RoadClosure.lanesAt (c : RoadClosure) (d : GantryDesc) : List Nat :=
  match c.lanes with
  | some ls => d.signedLanes.filter (fun l => ls.contains l)
  | none => d.signedLanes

/-- The gantry-lanes of a footprint, from the most upstream gantry downward and in ascending lane number
(R120, R121). -/
def State.footprint (c : RoadClosure) (s : State) : List (Nat × Nat) :=
  (List.range' (c.site - 3) (c.site - (c.site - 3) + 1)).flatMap (fun g =>
    (c.lanesAt (s.tables.gantry g)).map (fun l => (g, l)))

/-- The Lane Overlay List of a gantry-lane. -/
def ClosureUnit.overlay (u : ClosureUnit) (g l : Nat) : List Nat := (u.overlays.getD g []).getD l []

/-- An id added at the end of the lists of a footprint (R120). -/
def addOverlays (id : Nat) (cells : List (Nat × Nat)) (overlays : List (List (List Nat))) : List (List (List Nat)) :=
  overlays.mapIdx (fun g row => row.mapIdx (fun l ids => if cells.contains (g, l) then ids ++ [id] else ids))

/-- An id removed from every list (R120, R124). -/
def dropOverlays (id : Nat) (overlays : List (List (List Nat))) : List (List (List Nat)) :=
  overlays.map (fun row => row.map (fun ids => ids.filter (fun x => decide (x ≠ id))))

/-- The lowest-numbered free slot (R119). -/
def ClosureUnit.freeSlot (u : ClosureUnit) : Nat :=
  ((List.range Config.closureRegisterSize).find? (fun n => !u.register.any (fun c => c.slot == n))).getD 0

/-- The register replaced. -/
def State.setRegister (r : List Closure) (s : State) : State := { s with closures := { s.closures with register := r } }

/-- The road closures of the register in order of acceptance. -/
def ClosureUnit.roads (u : ClosureUnit) : List RoadClosure :=
  u.register.filterMap (fun c => match c.body with
    | .road r => some r
    | .shoulder _ => none)

/-- The shoulder orders of the register in order of acceptance, each with its slot. -/
def ClosureUnit.shoulderOrders (u : ClosureUnit) : List (Nat × ShoulderOrder) :=
  u.register.filterMap (fun c => match c.body with
    | .road _ => none
    | .shoulder o => some (c.slot, o))

/-! ## LANE CLOSE, CARRIAGEWAY CLOSE (R121 to R123) -/

/-- A running lane counts as already closed at a site (R122). -/
def State.alreadyClosed (site lane : Nat) (s : State) : Bool :=
  s.closures.roads.any (fun c =>
    decide (c.effective ≤ site ∧ site ≤ c.site) && (match c.lanes with
      | some ls => ls.contains lane
      | none => true))

/-- Check 6 of R121: some running lane of the site is neither already closed nor in the new order's set. -/
def State.leavesOpen (site : Nat) (lanes : List Nat) (s : State) : Bool :=
  (List.range' 1 (s.tables.gantry site).lanes).any (fun l => !s.alreadyClosed site l && !lanes.contains l)

/-- Checks 5 and 6 of R121. -/
def State.siteOk (site : Nat) (lanes : Option (List Nat)) (s : State) : Bool :=
  decide (site < s.gantryCount) &&
    (match lanes with
     | some ls => !ls.isEmpty && ls.all (fun l => (s.tables.gantry site).signedLanes.contains l) && s.leavesOpen site ls
     | none => true)

/-- LANE CLOSE, with its lanes, or CARRIAGEWAY CLOSE (R121 to R123). -/
def State.closeRoad (id site : Nat) (lanes : Option (List Nat)) (requested : Nat) (s : State) : State × Answer :=
  if s.mode = .unconfigured then (s, refused .wrongMode)
  else if id = 0 then (s, refused .unknownOrder)
  else
    match s.idHeldBy id with
    | some closures => (s, refused .duplicateId (.register closures))
    | none =>
      if Config.closureRegisterSize ≤ s.closures.register.length then
        (s, refused .registerFull (.register true))
      else if !s.siteOk site lanes then (s, refused .badLocation)
      else
        let cap := s.par.settleCap requested
        let road : RoadClosure := { site, lanes, cap := cap.1, effective := site, unprotected := false }
        let cells := s.footprint road
        match cells.find? (fun x => decide (Config.overlaySize ≤ (s.closures.overlay x.1 x.2).length)) with
        | some x => (s, refused .overlayFull (.gantryLane x.1 x.2))
        | none =>
          let slot := s.closures.freeSlot
          let s1 : State := { s with closures := { s.closures with
            register := s.closures.register ++ [{ id, slot, body := .road road }],
            overlays := addOverlays id cells s.closures.overlays } }
          (s1.requestPass site, acceptedOrClamped cap.2 (.capSlot cap.1 slot))

/-! ## Effective sites (R125) -/

/-- A gantry is fit for an order (R125). -/
def State.fit (c : RoadClosure) (g : Nat) (s : State) : Bool :=
  let d := s.deliveryRec g
  !d.state.out && (c.lanesAt (s.tables.gantry g)).all (fun l => !d.failedLanes.contains l)

/-- The gantries looked at for an order: s, s − 1 and s − 2, at 0 or above (R125). -/
def candidateSites (site : Nat) : List Nat := [site] ++ (if 1 ≤ site then [site - 1] else []) ++
  (if 2 ≤ site then [site - 2] else [])

/-- An order's effective site and condition settled afresh (R125). -/
def State.settleRoad (c : RoadClosure) (s : State) : RoadClosure :=
  match (candidateSites c.site).find? (fun g => s.fit c g) with
  | some g => { c with effective := g, unprotected := false }
  | none => { c with effective := c.site, unprotected := true }

/-- The slots of the road closures that meet a condition, ascending. -/
def roadSlots (register : List Closure) (p : RoadClosure → Bool) : List Nat :=
  (List.range Config.closureRegisterSize).filter (fun n => register.any (fun c => c.slot == n && (match c.body with
    | .road r => p r
    | .shoulder _ => false)))

/-- The Closure Unit settles the effective site of every order sited at a gantry, with the falls and rises of
CLOSURE_UNPROTECTED (R125, R174). -/
def State.settleSites (g : Nat) (s : State) : State :=
  let register := s.closures.register.map (fun c => match c.body with
    | .road r => if r.site = g then { c with body := .road (s.settleRoad r) } else c
    | .shoulder _ => c)
  let was := roadSlots s.closures.register RoadClosure.unprotected
  let is := roadSlots register RoadClosure.unprotected
  (s.setRegister register).reportAll
    ((was.filter (fun n => !is.contains n)).map (alertKey .closureUnprotected ·))
    ((is.filter (fun n => !was.contains n)).map (alertKey .closureUnprotected ·))

/-! ## Contributions (R127 to R130) -/

/-- A lane of gantry e is open at e: its composed aspect is not CLOSED, and for lane 0 the shoulder state is
OPEN (R128). -/
def State.openLanes (e : Nat) (s : State) : List Nat :=
  let d := s.tables.gantry e
  match (s.deliveryRec e).demanded with
  | none => []
  | some sign => ((d.signedLanes.zip sign.aspects).filter (fun x =>
      decide (x.2 ≠ .closed) && (x.1 != 0 || decide (s.shoulder e = .opened)))).map Prod.fst

/-- The difference of two lane numbers. -/
def laneDistance (a b : Nat) : Nat := max (a - b) (b - a)

/-- The merge toward the nearest open lane, by a preferred side when two are equally near; CLOSED when no lane
is open (R128). -/
def mergeToward (side : MergeSide) (lane : Nat) (targets : List Nat) : Aspect :=
  match targets with
  | [] => .closed
  | t :: rest =>
    let d := (rest.map (laneDistance lane)).foldl min (laneDistance lane t)
    let lower := targets.any (fun x => decide (x + d = lane))
    let higher := targets.any (fun x => decide (x = lane + d))
    if lower && higher then (match side with
      | .nearside => .mergeNearside
      | .offside => .mergeOffside)
    else if lower then .mergeNearside
    else .mergeOffside

/-- What an order contributes on one lane of a gantry (R127, R128). -/
def State.contribution (c : RoadClosure) (g lane : Nat) (s : State) : Option Aspect :=
  if !(c.lanesAt (s.tables.gantry g)).contains lane then none
  else if c.effective ≤ g ∧ g ≤ c.site then some .closed
  else if g + 1 = c.effective ∧ c.lanes.isSome then
    some (mergeToward (s.tables.gantry g).side lane (s.openLanes c.effective))
  else none

/-- The road closure of the register with an id. -/
def ClosureUnit.road (u : ClosureUnit) (id : Nat) : Option RoadClosure :=
  match (u.register.find? (fun c => c.id == id)).map Closure.body with
  | some (.road r) => some r
  | _ => none

/-- The overlay aspect of a gantry-lane, if any (R127). -/
def State.overlayAspect (g lane : Nat) (s : State) : Option Aspect :=
  let given := (s.closures.overlay g lane).filterMap (fun id =>
    (s.closures.road id).bind (fun c => s.contribution c g lane))
  if given.contains .closed then some .closed else given.head?

/-- The closure caps at a gantry (R129). -/
def State.closureCaps (g : Nat) (s : State) : List Nat :=
  (s.closures.roads.filter (fun c =>
    decide ((g = c.effective ∧ c.lanes.isSome) ∨ g + 1 = c.effective ∨ g + 2 = c.effective))).map RoadClosure.cap

/-- INCIDENT_AHEAD is asked for at a gantry (R129). -/
def State.incidentAsked (g : Nat) (s : State) : Bool :=
  s.closures.roads.any (fun c =>
    decide (g + 1 = c.effective ∨ g + 2 = c.effective ∨ g + 3 = c.effective))

/-! ## The shoulder (R131 to R138) -/

/-- The slots of the shoulder orders in HALTED, ascending. -/
def haltedSlots (register : List Closure) : List Nat :=
  (List.range Config.closureRegisterSize).filter (fun n => register.any (fun c => c.slot == n && (match c.body with
    | .road _ => false
    | .shoulder o => decide (o.phase = .halted))))

/-- The register replaced, with the falls and rises of SHOULDER_HALTED that follow (R135, R174). -/
def State.changeRegister (register : List Closure) (s : State) : State :=
  let was := haltedSlots s.closures.register
  let is := haltedSlots register
  (s.setRegister register).reportAll
    ((was.filter (fun n => !is.contains n)).map (alertKey .shoulderHalted ·))
    ((is.filter (fun n => !was.contains n)).map (alertKey .shoulderHalted ·))

/-- The shoulder order in a slot replaced. -/
def putShoulder (register : List Closure) (slot : Nat) (o : ShoulderOrder) : List Closure :=
  register.map (fun c => if c.slot = slot then { c with body := .shoulder o } else c)

/-- The shoulder order whose front is a gantry, with its slot. -/
def ClosureUnit.fronting (u : ClosureUnit) (g : Nat) : Option (Nat × ShoulderOrder) :=
  u.shoulderOrders.find? (fun x => decide (x.2.front = some g))

/-- A gantry is FAILED or LOCAL. -/
def State.gantryOut (g : Nat) (s : State) : Bool := (s.deliveryRec g).state.out

/-- OPENING, or HALTED where the front is FAILED or LOCAL (R133 to R135). -/
def State.openingPhase (front : Nat) (s : State) : ShoulderPhase := if s.gantryOut front then .halted else .opening

/-- The merge hold as started, in ms (R137). -/
def State.holdTime (s : State) : Nat := s.par.mergeHold * 1000

/-- The stations the shoulder verification examines: ascending, governed within the range, with an instrumented
shoulder (R132). -/
def State.shoulderStations (firstGantry lastGantry : Nat) (s : State) : List Nat :=
  (List.range s.stationCount).filter (fun n =>
    let d := s.tables.station n
    decide (firstGantry ≤ d.governing ∧ d.governing ≤ lastGantry) && d.shoulder)

/-- One station's lane 0 passes the verification (R132). -/
def State.shoulderClear (n : Nat) (s : State) : Bool :=
  let l := (s.stationRec n).lane 0
  decide (l.health = .ok) && l.run.isNone && (match l.history with
    | [some a, some b] => decide (a < s.par.clearOccupancy ∧ b < s.par.clearOccupancy)
    | _ => false)

/-- The id of a shoulder order whose range meets a range (R131). DESIGN CHOICE (assumption 36): of several, the
earliest accepted. -/
def State.overlapping (firstGantry lastGantry : Nat) (s : State) : Option Nat :=
  (s.closures.register.find? (fun c => match c.body with
    | .road _ => false
    | .shoulder o => decide (o.firstGantry ≤ lastGantry ∧ firstGantry ≤ o.lastGantry))).map Closure.id

/-- Check 5 of R131. -/
def State.shoulderRange (firstGantry lastGantry : Nat) (s : State) : Bool :=
  decide (firstGantry ≤ lastGantry ∧ lastGantry < s.gantryCount) &&
    (List.range' firstGantry (lastGantry + 1 - firstGantry)).all (fun g => (s.tables.gantry g).shoulder)

/-- An accepted SHOULDER OPEN (R133). -/
def State.startOpening (id firstGantry lastGantry : Nat) (s : State) : State :=
  let order : ShoulderOrder :=
    { firstGantry, lastGantry, phase := s.openingPhase lastGantry, front := some lastGantry, mergeHold := none }
  ((s.changeRegister (s.closures.register ++
    [{ id, slot := s.closures.freeSlot, body := .shoulder order }])).setShoulder lastGantry .opened).requestPass lastGantry

/-- SHOULDER OPEN (R131 to R133). -/
def State.shoulderOpen (id firstGantry lastGantry : Nat) (attested : Bool) (s : State) : State × Answer :=
  if s.mode ≠ .active then (s, refused .wrongMode)
  else if id = 0 then (s, refused .unknownOrder)
  else
    match s.idHeldBy id with
    | some closures => (s, refused .duplicateId (.register closures))
    | none =>
      if Config.closureRegisterSize ≤ s.closures.register.length then
        (s, refused .registerFull (.register true))
      else if !s.shoulderRange firstGantry lastGantry then (s, refused .badLocation)
      else
        match s.overlapping firstGantry lastGantry with
        | some other => (s, refused .overlap (.order other))
        | none =>
          if !attested then (s, refused .unverified)
          else
            match (s.shoulderStations firstGantry lastGantry).find? (fun n => !s.shoulderClear n) with
            | some n => (s, refused .shoulderNotClear (.station n))
            | none => (s.startOpening id firstGantry lastGantry, accepted (.slot s.closures.freeSlot))

/-- A confirmation steps an opening at its front: the front moves upstream, or the opening completes (R134). -/
def State.stepOpening (slot : Nat) (o : ShoulderOrder) (g : Nat) (s : State) : State :=
  if g = o.firstGantry then
    s.changeRegister (putShoulder s.closures.register slot { o with phase := .opened, front := none })
  else
    ((s.changeRegister (putShoulder s.closures.register slot
      { o with phase := s.openingPhase (g - 1), front := some (g - 1) })).setShoulder (g - 1) .opened).requestPass (g - 1)

/-- A gantry becomes the front of a closing: its shoulder state becomes MERGE, and the merge hold starts if it
is FAILED or LOCAL (R136 to R138). -/
def State.moveClosing (slot : Nat) (o : ShoulderOrder) (front : Nat) (s : State) : State :=
  ((s.changeRegister (putShoulder s.closures.register slot
    { o with phase := .closing, front := some front,
             mergeHold := if s.gantryOut front then some s.holdTime else none })).setShoulder front .merge).requestPass front

/-- The most upstream gantry from `low` to a range's last whose shoulder state is OPEN. -/
def State.firstOpen (low : Nat) (o : ShoulderOrder) (s : State) : Option Nat :=
  (List.range' low (o.lastGantry + 1 - low)).find? (fun g => decide (s.shoulder g = .opened))

/-- The confirmed lane 0 aspect of a gantry. -/
def State.confirmedShoulder (g : Nat) (s : State) : Option Displayed :=
  (s.deliveryRec g).confirmed.bind (fun shown => onLane (s.tables.gantry g) shown 0)

/-- A confirmation of a gantry as the Closure Unit reads it (R134, R137). -/
def State.readConfirmation (g : Nat) (s : State) : State :=
  match s.closures.fronting g with
  | none => s
  | some (slot, o) =>
    if s.gantryOut g then s
    else
      match o.phase, s.confirmedShoulder g with
      | .opening, some shown =>
        if shown ≠ .shows .closed ∧ 0 ∉ (s.deliveryRec g).failedLanes then s.stepOpening slot o g else s
      | .closing, some shown =>
        if (shown = .shows .mergeOffside ∨ shown = .shows .closed) ∧ o.mergeHold = none then
          s.setRegister (putShoulder s.closures.register slot { o with mergeHold := some s.holdTime })
        else s
      | _, _ => s

/-- The report of a change of a front's delivery state as the shoulder sequences read it (R135, R137). -/
def State.readDeliveryChange (g : Nat) (s : State) : State :=
  match s.closures.fronting g with
  | none => s
  | some (slot, o) =>
    match o.phase, s.gantryOut g with
    | .opening, true => s.changeRegister (putShoulder s.closures.register slot { o with phase := .halted })
    | .halted, false => s.changeRegister (putShoulder s.closures.register slot { o with phase := .opening })
    | .closing, true =>
      if o.mergeHold = none then
        s.setRegister (putShoulder s.closures.register slot { o with mergeHold := some s.holdTime })
      else s
    | _, _ => s

/-- The Closure Unit's passes after a change at a gantry: from the site of every road closure sited there or
one or two gantries downstream (R126). -/
def State.requestSites (g : Nat) (s : State) : State :=
  (s.closures.roads.filter (fun c => decide (c.site = g ∨ c.site = g + 1 ∨ c.site = g + 2))).foldl
    (fun s c => s.requestPass c.site) s

/-- The merge hold of a closing runs out: its front's shoulder closes, and the front moves downstream or the
order is removed (R138). -/
def State.expireHold (slot : Nat) (s : State) : State :=
  match s.closures.shoulderOrders.find? (fun x => x.1 == slot) with
  | some (_, o) =>
    match o.phase, o.front, o.mergeHold with
    | .closing, some f, some _ =>
      let s1 := s.setShoulder f .closed
      match s1.firstOpen (f + 1) o with
      | some h => s1.moveClosing slot o h
      | none => (s1.setRegister (s1.closures.register.filter (fun c => decide (c.slot ≠ slot)))).requestPass o.lastGantry
    | _, _, _ => s
  | none => s

/-! ## ORDER CLEAR (R110, R124, R136) -/

/-- ORDER CLEAR of a lane or carriageway order (R124). -/
def State.clearRoad (c : Closure) (r : RoadClosure) (s : State) : State × Answer :=
  let s1 : State := { s with closures := { s.closures with
    register := s.closures.register.filter (fun x => decide (x.slot ≠ c.slot)),
    overlays := dropOverlays c.id s.closures.overlays } }
  ((s1.reportChange (alertKey .closureUnprotected c.slot) r.unprotected false).requestPass r.site, accepted)

/-- ORDER CLEAR of a shoulder order (R136). -/
def State.clearShoulder (c : Closure) (o : ShoulderOrder) (s : State) : State × Answer :=
  if !s.signing then (s, refused .wrongMode)
  else if o.phase = .closing then (s, refused .busy)
  else
    match s.firstOpen o.firstGantry o with
    | some h => (s.moveClosing c.slot { o with mergeHold := none } h, accepted)
    | none => (s, accepted)

/-- ORDER CLEAR (R110, R124, R136): refused NO_SUCH_ORDER when neither register holds the id. -/
def State.orderClear (id : Nat) (s : State) : State × Answer :=
  match s.closures.register.find? (fun c => c.id == id) with
  | some c =>
    match c.body with
    | .road r => s.clearRoad c r
    | .shoulder o => s.clearShoulder c o
  | none => s.clearLimit id

/-- A shoulder order is OPENING, HALTED or CLOSING (R20). -/
def State.shoulderRunning (s : State) : Bool :=
  s.closures.shoulderOrders.any (fun x => decide (x.2.phase ≠ .opened))

/-- The Closure Unit emptied (R24, R119). -/
def State.resetClosures (s : State) : State := { s with closures := .reset }

end Sys2Proof.Machine
end

