-- ==== Sys2Proof/Machine/Delivery.lean ====
section
/-! DEFINITION. Aspect Composition and Sign Delivery (chapter 09): the composition pass, the Sign Command Queue,
the judging of the drivers' replies, local maintenance and refresh. -/

namespace Sys2Proof.Machine

/-! ## Composition (R142, R143) -/

/-- An aspect's restrictiveness rank (chapter 00, R142). -/
def Aspect.rank : Aspect → Nat
  | .closed => 3
  | .mergeNearside | .mergeOffside => 2
  | .limit _ | .nlEnd => 1
  | .blank => 0

/-- The aspect of a lane that carries the carriageway limit (R112, R142). -/
def limitAspect : Limit → Aspect
  | .kmh v => .limit v
  | .nl => .nlEnd

/-- The candidate of highest rank, the earliest among equals; the last candidate always stands (R142). -/
def highest (candidates : List Aspect) (last : Aspect) : Aspect :=
  candidates.foldr (fun a best => if best.rank ≤ a.rank then a else best) last

/-- The composed aspect of a running lane (R142). -/
def State.composeRunning (g lane : Nat) (carriageway : Aspect) (s : State) : Aspect :=
  highest (s.overlayAspect g lane).toList carriageway

/-- The shoulder aspect of lane 0, a MERGE_OFFSIDE without an open running lane being CLOSED (R130, R142). DESIGN
CHOICE (assumption 37): it is CLOSED then whether or not an overlay MERGE stands on lane 0 as well. -/
def shoulderAspect (state : ShoulderState) (running : List Aspect) : Option Aspect :=
  match state with
  | .closed => some .closed
  | .merge => some (if running.any (fun a => decide (a ≠ .closed)) then .mergeOffside else .closed)
  | .opened => none

/-- The demanded aspects of a gantry's signed lanes: the running lanes first, then lane 0 (R142). -/
def State.composeLanes (g : Nat) (s : State) : List Aspect :=
  let d := s.tables.gantry g
  let carriageway := limitAspect ((s.gantryControl g).demanded.getD .nl)
  let running := (List.range' 1 d.lanes).map (fun l => s.composeRunning g l carriageway)
  if d.shoulder then
    highest ((s.overlayAspect g 0).toList ++ (shoulderAspect (s.shoulder g) running).toList) carriageway :: running
  else running

/-- The limit order whose legend counts among some: lowest cap, then earliest (R143). -/
def lowestCapped (orders : List LimitOrder) : Option LimitOrder :=
  orders.foldl (fun best o => match best with
    | none => some o
    | some b => if o.cap < b.cap then some o else best) none

/-- The band legend a pass hands to the composer: NONE in STARTUP (R25, R105). -/
def State.handedLegend (g : Nat) (s : State) : Legend :=
  if s.mode = .startup then .blank else s.tables.bandLegend (s.gantryControl g).band

/-- The legend of a gantry (R143). -/
def State.composeLegend (g : Nat) (s : State) : Legend :=
  let band := s.handedLegend g
  if s.incidentAsked g then .incidentAhead
  else if band = .queueAhead then .queueAhead
  else
    match (lowestCapped ((s.coveringOrders g).filter (fun o => o.legend.isSome))).bind LimitOrder.legend with
    | some l => l
    | none =>
      if band = .congestion then .congestion
      else if s.shoulder g = .opened then .shoulderRunning
      else .blank

/-! ## The Sign Command Queue (R146, R147) -/

/-- The gantry has an entry: its in-queue flag (R145). -/
def State.inQueue (g : Nat) (s : State) : Bool := s.composer.queue.any (fun e => e.gantry == g)

/-- A placement of a gantry with a class: a new entry, or its entry updated in place (R146). -/
def State.place (g : Nat) (cls : EntryClass) (s : State) : State :=
  let queue :=
    if s.inQueue g then
      s.composer.queue.map (fun e => if e.gantry = g ∧ cls = .restrictive then { e with cls := .restrictive } else e)
    else s.composer.queue ++ [{ gantry := g, cls := cls }]
  { s with composer := { s.composer with queue := queue } }

/-- A gantry's entry leaves the queue (R146). -/
def State.dequeue (g : Nat) (s : State) : State :=
  { s with composer := { s.composer with queue := s.composer.queue.filter (fun e => decide (e.gantry ≠ g)) } }

/-- A displayed aspect as R146 compares it: an UNREADABLE one counts as rank 0, as BLANK does. -/
def Displayed.compared : Displayed → Aspect
  | .shows a => a
  | .unreadable => .blank

/-- A limit aspect's limit. -/
def Aspect.limit? : Aspect → Option Limit
  | .limit v => some (.kmh v)
  | .nlEnd => some .nl
  | _ => none

/-- A demanded aspect is more restrictive than a confirmed one (R146). -/
def Params.tighter (p : Params) (demanded confirmed : Aspect) : Bool :=
  decide (confirmed.rank < demanded.rank) ||
    (match demanded.limit?, confirmed.limit? with
     | some a, some b => decide (p.value a < p.value b)
     | _, _ => false)

/-- The class a placement of a gantry takes from its demand and confirmed aspects (R146). -/
def State.placementClass (g : Nat) (s : State) : EntryClass :=
  let r := s.deliveryRec g
  let demanded := (r.demanded.map Signing.aspects).getD []
  let shown := match r.confirmed with
    | some c => c.map Displayed.compared
    | none => demanded.map (fun _ => .blank)
  if (demanded.zip shown).any (fun x => s.par.tighter x.1 x.2) then .restrictive else .ordinary

/-- A gantry's refresh is due: the time since the last SET is at or above the refresh time (R144, R152). -/
def State.refreshDue (g : Nat) (s : State) : Bool :=
  match (s.deliveryRec g).sinceSet with
  | some t => decide (s.par.refreshTime * 1000 ≤ t)
  | none => false

/-- The first placement of step 5 is called for: nothing sent yet, or the demand differs from what was sent (R144). -/
def State.demandUnsent (g : Nat) (s : State) : Bool :=
  let r := s.deliveryRec g
  !r.state.out && (r.sent.isNone || decide (r.demanded ≠ r.sent))

/-- Step 5 of a visit (R144). -/
def State.placeVisited (g : Nat) (s : State) : State :=
  let s1 := if s.demandUnsent g then s.place g (s.placementClass g) else s
  if s1.refreshDue g && decide ((s1.deliveryRec g).state ≠ .inLocal) && !s1.inQueue g then s1.place g .ordinary
  else s1

/-- One visit of a pass to a gantry (R141). -/
def State.visit (g : Nat) (s : State) : State :=
  let s1 := s.settleSites g
  let s2 := s1.settleDemand g (s1.closureCaps g)
  let signing : Signing := { aspects := s2.composeLanes g, legend := s2.composeLegend g }
  let s3 := (s2.setDelivery g { s2.deliveryRec g with demanded := some signing }).placeVisited g
  { s3 with composer := { s3.composer with pass := if g = 0 then none else some (g - 1) } }

/-- The entry that a COMMAND slot takes: the oldest RESTRICTIVE one, else the oldest (R147). -/
def selectEntry (queue : List QueueEntry) : Option QueueEntry :=
  (queue.find? (fun e => decide (e.cls = .restrictive))).or queue.head?

/-- A gantry's record when its SGS is handed over (R147). -/
def DeliveryRec.handOver (r : DeliveryRec) : DeliveryRec :=
  { r with
    setSequence := (r.setSequence + 1) % 256,
    sent := r.demanded,
    sinceSet := some 0,
    state := if r.state = .unknown ∨ r.state = .confirmed then .awaiting else r.state }

/-- The SGS payload of a record (R147, R181). -/
def sgsPayload (r : DeliveryRec) : List Byte :=
  let signing := r.sent.getD { aspects := [], legend := .blank }
  [byteOf r.setSequence, byteOf signing.legend.code, byteOf signing.aspects.length] ++
    signing.aspects.map (fun a => byteOf a.code)

/-! ## Judging (R148 to R155) -/

/-- The gantry of the segment whose driver has an address. -/
def State.gantryAt (address : Nat) (s : State) : Option Nat :=
  (List.range s.gantryCount).find? (fun g => (s.tables.gantry g).address == address)

/-- SIGN_FAULT of a gantry (R154). -/
def DeliveryRec.signFault (r : DeliveryRec) : Bool := decide (r.state = .failed) || !r.failedLanes.isEmpty

/-- The results of a judgement handed on, from the record as it was before it (R153 to R155): delivery changes,
then the confirmation if a complete list was taken, then SIGN_FAULT, then the notice. -/
def State.handOn (g : Nat) (old : DeliveryRec) (listTaken : Bool) (s : State) : State :=
  let new := s.deliveryRec g
  let moved := decide (old.state ≠ new.state) && (old.state.out || new.state.out)
  let s1 :=
    if moved || decide (old.failedLanes ≠ new.failedLanes) then
      ((if moved then s.readDeliveryChange g else s).requestSites g).requestPass g
    else s
  let s2 := if listTaken then s1.readConfirmation g else s1
  let s3 := s2.reportChange (alertKey .signFault g) old.signFault new.signFault
  if old.confirmed ≠ new.confirmed ∨ old.confirmedLegend ≠ new.confirmedLegend then
    s3.offerReport (.gantryNotice
      { gantry := g, confirmed := new.confirmed, legend := new.confirmedLegend, state := new.state,
        failedLanes := new.failedLanes, setSequence := new.setSequence })
  else s3

/-- The gantry enters LOCAL on a reply (R150). -/
def State.enterLocal (g : Nat) (status : DriverStatus) (shown : Option (List Displayed)) (s : State) : State :=
  let r := s.deliveryRec g
  (s.setDelivery g { r with state := .inLocal, attempts := 0, status := some status,
                            confirmed := shown.or r.confirmed }).dequeue g

/-- A failed attempt, on the record as the judgement has left it so far (R149). -/
def State.failAttempt (g : Nat) (mayPlace : Bool) (s : State) : State :=
  let r := s.deliveryRec g
  if r.state = .awaiting then
    if Config.maxAttempts ≤ r.attempts + 1 then
      (s.setDelivery g { r with attempts := Config.maxAttempts, state := .failed }).dequeue g
    else
      let s1 := s.setDelivery g { r with attempts := r.attempts + 1 }
      if mayPlace then s1.place g .ordinary else s1
  else s

/-- The lanes that fail a judgement: shown other than sent, or with a lamp fault (R148). -/
def failingLanes (d : GantryDesc) (sent : List Aspect) (shown : List Displayed) (lamps : List Nat) : List Nat :=
  d.signedLanes.filter (fun l =>
    decide (onLane d shown l ≠ (onLane d sent l).map Displayed.shows) || lamps.contains l)

/-- A complete SGS reply without LOCAL, judged lane by lane (R148). -/
def State.judgeLanes (g : Nat) (status : DriverStatus) (shown : List Displayed) (mayPlace : Bool) (s : State) :
    State :=
  let r := s.deliveryRec g
  let failing := failingLanes (s.tables.gantry g) ((r.sent.map Signing.aspects).getD []) shown status.lampFaults
  let r1 := { r with confirmed := some shown, confirmedLegend := (r.sent.map Signing.legend).or r.confirmedLegend,
                     status := some status, failedLanes := failing }
  if failing.isEmpty then s.setDelivery g { r1 with state := .confirmed, attempts := 0 }
  else (s.setDelivery g r1).failAttempt g mayPlace

/-- The judgement of an SGS exchange of a gantry (R148). -/
def State.judgeSgs (g : Nat) (reply : Option Reply) (mayPlace : Bool) (s : State) : State :=
  let old := s.deliveryRec g
  match reply with
  | none => (s.failAttempt g mayPlace).handOn g old false
  | some r =>
    let reading := readSign (s.tables.gantry g) r.payload
    match reading.status, reading.shown with
    | none, _ => (s.failAttempt g mayPlace).handOn g old false
    | some status, shown =>
      if status.inLocal then (s.enterLocal g status shown).handOn g old shown.isSome
      else
        match shown with
        | none => ((s.setDelivery g { old with status := some status }).failAttempt g mayPlace).handOn g old false
        | some list => (s.judgeLanes g status list mayPlace).handOn g old true

/-- The delivery state after a complete SGQ reply without LOCAL (R150, R151). -/
def sgqState (queued : Bool) : DeliveryState → DeliveryState
  | .unknown => .confirmed
  | .awaiting => if queued then .awaiting else .confirmed
  | .inLocal => .confirmed
  | .confirmed => .confirmed
  | .failed => .failed

/-- The placement after a complete SGQ reply without LOCAL: in STARTUP or ACTIVE, of a gantry that holds a
demand and either has left LOCAL or, neither FAILED nor LOCAL, shows something else (R150, R151). -/
def State.placeQueried (g : Nat) (old : DeliveryRec) (shown : List Displayed) (s : State) : State :=
  match (s.deliveryRec g).demanded with
  | none => s
  | some d =>
    if s.signing && !(s.deliveryRec g).state.out &&
        (decide (old.state = .inLocal) || decide (d.aspects.map Displayed.shows ≠ shown)) then
      s.place g (s.placementClass g)
    else s

/-- The judgement of an SGQ exchange of a gantry (R150, R151). -/
def State.judgeSgq (g : Nat) (reply : Option Reply) (s : State) : State :=
  let old := s.deliveryRec g
  match reply with
  | none => s
  | some r =>
    let reading := readSign (s.tables.gantry g) r.payload
    match reading.status, reading.shown with
    | some status, shown =>
      if status.inLocal then (s.enterLocal g status shown).handOn g old shown.isSome
      else
        match shown with
        | none => s
        | some list =>
          ((s.setDelivery g { old with confirmed := some list, status := some status,
                                       state := sgqState (s.inQueue g) old.state }).placeQueried g old list).handOn
            g old true
    | none, _ => s

/-- The end of an SGS or SGQ exchange: discarded in UNCONFIGURED and after a return to it (R148, R156), else
judged, without a placement where the exchange was overtaken by an entry to STANDBY (R21, R29). -/
def State.judgeSign (q : Request) (reply : Option Reply) (s : State) : State :=
  if s.mode = .unconfigured ∨ q.fate = .discard then s
  else
    match s.gantryAt q.address with
    | none => s
    | some g =>
      if q.kind = .sgs then s.judgeSgs g reply (s.signing && decide (q.fate = .judge)) else s.judgeSgq g reply

/-! ## Refresh (R151, R152) -/

/-- The refresh rotation moves to the next gantry (R151). -/
def State.rotate (s : State) : State :=
  { s with composer := { s.composer with
      rotation := if s.composer.rotation + 1 < s.gantryCount then s.composer.rotation + 1 else 0 } }

/-- A gantry's time since the last SET reaches the refresh time (R152). -/
def State.reachRefresh (g : Nat) (s : State) : State :=
  let r := s.deliveryRec g
  match r.sinceSet with
  | none => s
  | some t =>
    let s1 := s.setDelivery g { r with sinceSet := some (max t (s.par.refreshTime * 1000)) }
    if s.signing && decide (r.state ≠ .inLocal) && !s.inQueue g && r.demanded.isSome then s1.place g .ordinary
    else s1

/-! ## Mode changes (R156) -/

/-- The composer at an entry to STANDBY and at RESTART: queue and demands cleared, the pass IDLE (R21, R156). -/
def State.clearDemands (s : State) : State :=
  { s with composer := { s.composer with
      pass := none, queue := [], delivery := s.composer.delivery.map (fun r => { r with demanded := none }) } }

/-- The composer after a return to UNCONFIGURED (R24, R140, R145, R151). -/
def State.resetComposer (s : State) : State := { s with composer := .reset }

end Sys2Proof.Machine
end

