-- ==== Sys2Proof/Machine/Queries.lean ====
section
/-! DEFINITION. The result items of the six QUERY orders, byte for byte (R47, R49, R52, R83, R118, R157, R170,
R186). -/

namespace Sys2Proof.Machine

/-- A remaining time in ms as whole seconds, rounded up (R118, R170). -/
def secondsUp (ms : Nat) : Nat := (ms + 999) / 1000

/-- The first `n` of some items, padded to `n` with one value. -/
def padTo {α : Type} (n : Nat) (pad : α) (items : List α) : List α :=
  items.take n ++ List.replicate (n - items.length) pad

/-! ## QUERY GANTRY (R118, R157) -/

/-- Aspect codes and a legend: the signed lane count, 0 when absent, the codes, and the legend. -/
def signingItems (codes : List Nat) (legend : Option Legend) : List Byte :=
  [byteOf codes.length] ++ codes.map byteOf ++ [legendByte legend]

/-- The items of an optional demand or sent signing. -/
def signingOf (x : Option Signing) : List Byte :=
  signingItems ((x.map Signing.aspects).getD [] |>.map Aspect.code) (x.map Signing.legend)

/-- The in-queue flag with the entry's class. -/
def State.queueCode (g : Nat) (s : State) : Nat :=
  match s.composer.queue.find? (fun e => e.gantry == g) with
  | none => 0
  | some e => if e.cls = .restrictive then 1 else 2

/-- The driver status copy, coded as in the sign replies. -/
def statusItems : Option DriverStatus → List Byte
  | some d => [flagsOf d.lampFaults, flagByte d.inLocal ||| (flagByte d.supplyFault <<< 1)]
  | none => [255, 255]

/-- Speed Control's part of a QUERY GANTRY result (R118). -/
def State.controlItems (g : Nat) (s : State) : List Byte :=
  let c := s.gantryControl g
  let d := s.tables.gantry g
  let covering := s.coveringOrders g
  [byteOf c.band, limitByte (s.tables.bandLimit c.band), byteOf (s.tables.bandLegend c.band).code,
   byteOf c.unsupported, flagByte (c.isUnsupported d),
   (c.demanded.map limitByte).getD 0] ++
  twoBytes (secondsUp c.dwell) ++ [flagByte c.pendingIncrease] ++ (padTo 3 255 d.window).map byteOf ++
  [byteOf covering.length] ++ covering.flatMap (fun o => twoBytes o.id)

/-- The composer's part of a QUERY GANTRY result (R157). The time since the last SET is given in seconds
completed (assumption 23). -/
def State.deliveryItems (g : Nat) (s : State) : List Byte :=
  let r := s.deliveryRec g
  signingOf r.demanded ++ signingOf r.sent ++ [byteOf r.setSequence] ++
  signingItems ((r.confirmed.getD []).map Displayed.code) r.confirmedLegend ++
  [byteOf r.state.code, byteOf (s.queueCode g), byteOf r.attempts, flagsOf r.failedLanes] ++
  twoBytes ((r.sinceSet.map (· / 1000)).getD 65535) ++ statusItems r.status

/-- QUERY GANTRY (R118). -/
def State.queryGantry (g : Nat) (s : State) : Answer :=
  if g < s.gantryCount then queried (s.controlItems g ++ s.deliveryItems g) else refused .badLocation

/-! ## QUERY STATION (R83) -/

/-- The values of a lane as the IVR lane record lays them out (R181). -/
def LaneValues.bytes (v : LaneValues) : List Byte :=
  [byteOf v.nL, byteOf v.nG, byteOf v.p] ++ threeBytes v.tsum ++ twoBytes v.oms

/-- An entry of the occupancy history: 65535 for NOT_TAKEN, 65534 for an entry not held. -/
def historyCode : Option (Option Nat) → Nat
  | some (some o) => o
  | some none => 65535
  | none => 65534

/-- A lane's 20 bytes. -/
def LaneRec.bytes (r : LaneRec) : List Byte :=
  [flagByte r.values.isSome] ++ r.used.bytes ++ [speedByte r.speed] ++ twoBytes r.occupancy ++
  [byteOf r.count, flagByte r.test] ++ twoBytes (historyCode r.history[0]?) ++
  twoBytes (historyCode r.history[1]?) ++ [byteOf r.health.code, flagByte r.context.excluded]

/-- QUERY STATION (R83). -/
def State.queryStation (n : Nat) (s : State) : Answer :=
  if n < s.stationCount then
    let d := s.tables.station n
    let r := s.stationRec n
    let lanes := r.laneRecs d
    queried ([flagByte r.taken, byteOf r.poll.code, flagByte r.status.isSome, r.status.getD 0,
        speedByte r.speed] ++
      twoBytes r.occupancy ++ threeBytes r.flow ++ [byteOf r.usable] ++ twoBytes r.smoothed ++
      [flagByte r.seeded, byteOf r.stale, byteOf r.missed, flagByte (r.valid d), flagByte (r.lost d),
       byteOf lanes.length] ++
      lanes.flatMap (fun x => x.2.bytes))
  else refused .badLocation

/-! ## QUERY ORDERS (R170) -/

/-- A limit order's six bytes. -/
def LimitOrder.bytes (o : LimitOrder) : List Byte :=
  twoBytes o.id ++ [byteOf o.firstGantry, byteOf o.lastGantry, byteOf o.cap,
    byteOf ((o.legend.map Legend.code).getD 0)]

/-- A shoulder order's state code, in the order of R119. -/
def ShoulderPhase.code : ShoulderPhase → Nat
  | .opening => 0
  | .halted => 1
  | .opened => 2
  | .closing => 3

/-- A shoulder state's code, in the order of R119. -/
def ShoulderState.code : ShoulderState → Nat
  | .closed => 0
  | .opened => 1
  | .merge => 2

/-- A Closure Register entry's bytes. -/
def Closure.bytes (c : Closure) : List Byte :=
  match c.body with
  | .road r =>
    twoBytes c.id ++ [if r.lanes.isSome then 0 else 1, byteOf c.slot, byteOf r.site,
      flagsOf (r.lanes.getD []), byteOf r.cap, byteOf r.effective, flagByte r.unprotected]
  | .shoulder o =>
    twoBytes c.id ++ [2, byteOf c.slot, byteOf o.firstGantry, byteOf o.lastGantry, byteOf o.phase.code,
      (o.front.map byteOf).getD 255] ++ twoBytes ((o.mergeHold.map secondsUp).getD 65535)

/-- The shoulder states by gantry; no gantry in UNCONFIGURED. -/
def State.shoulderItems (s : State) : List Byte :=
  let n := if s.mode = .unconfigured then 0 else s.gantryCount
  [byteOf n] ++ (List.range n).map (fun g =>
    if (s.tables.gantry g).shoulder then byteOf (s.shoulder g).code else 255)

/-- QUERY ORDERS (R170). -/
def State.queryOrders (s : State) : Answer :=
  queried ([byteOf s.limitOrders.length] ++ s.limitOrders.flatMap LimitOrder.bytes ++
    [byteOf s.closures.register.length] ++ s.closures.register.flatMap Closure.bytes ++ s.shoulderItems)

/-! ## QUERY COUNTERS, CAPTURE and PATHS (R47, R49, R52) -/

/-- The counters are frozen: Exchange Count is 65535 (R48, R49). -/
def Counters.full (c : Counters) : Bool := decide (Config.counterTop ≤ c.exchanges)

/-- QUERY COUNTERS (R49). -/
def State.queryCounters (s : State) : Answer :=
  let c := s.link.counters
  queried (twoBytes c.exchanges ++ twoBytes c.errors ++ twoBytes c.strays ++ twoBytes c.pathErrors.one ++
    twoBytes c.pathErrors.two ++ [flagByte c.full])

/-- A link exception's code (R186). -/
def ExceptionKind.code : ExceptionKind → Nat
  | .timeout => 0
  | .error => 1
  | .duplicate => 2
  | .late => 3

/-- A path result's code (R186). -/
def CopyResult.code : CopyResult → Nat
  | .valid => 0
  | .bad => 1
  | .wrong => 2
  | .silent => 3
  | .absent => 4

/-- The items of the capture record, all 0 when it is EMPTY. -/
def captureItems : Option Capture → List Byte
  | none => List.replicate 8 0
  | some c =>
    [1, byteOf c.outcome.code] ++
    (match c.exchange with
     | none => [0, 0, 255, 255]
     | some x => [byteOf x.kind.code, byteOf x.address, byteOf x.tag, (x.slot.map byteOf).getD 255]) ++
    [byteOf c.results.one.code, byteOf c.results.two.code]

/-- QUERY CAPTURE (R52). -/
def State.queryCapture (s : State) : Answer :=
  queried (captureItems s.link.capture ++ [flagByte s.link.frozen])

/-- QUERY PATHS (R47). -/
def State.queryPaths (s : State) : Answer :=
  let l := s.link
  queried [if l.pathMode = .dual then 0 else 1, byteOf (pathNumber l.receivePath), flagByte l.cpd,
    byteOf l.checkRun, byteOf l.nonValid.one, flagByte l.down.one, byteOf l.nonValid.two, flagByte l.down.two]

/-- A QUERY of any subject. -/
def State.query (q : QuerySubject) (s : State) : Answer :=
  match q with
  | .gantry n => s.queryGantry n
  | .station n => s.queryStation n
  | .orders => s.queryOrders
  | .counters => s.queryCounters
  | .capture => s.queryCapture
  | .paths => s.queryPaths

end Sys2Proof.Machine
end

