-- ==== Sys2Proof/Machine/Paths.lean ====
section
/-! DEFINITION. The Link Controller's accounts: the outcome of an exchange, path state, link counters, the
Exception Capture record, and the path orders (chapter 03). -/

namespace Sys2Proof.Machine

/-! ## What is decoded (R31, R39, R44, R46) -/

/-- The exchange decodes a path: either path in DUAL, the receive path alone in SINGLE (R39, R44). -/
def Exchange.decodes (x : Exchange) (p : Path) : Bool := decide (x.mode = .dual) || decide (p = x.receive)

/-- A path is decoded between exchanges (R46, assumption 9). -/
def Link.decodesNow (l : Link) (p : Path) : Bool := decide (l.decodeMode = .dual) || decide (p = l.receivePath)

/-- A path is decoded now: by the exchange in progress, or between exchanges; neither while a request is being
sent (R30). -/
def Link.decodes (l : Link) (p : Path) : Bool :=
  match l.phase with
  | .sending _ => false
  | .awaiting x => x.decodes p
  | .idle | .guarding _ _ => l.decodesNow p

/-- A frame is being received on a path that is decoded (R31). -/
def Link.arrivingOn (l : Link) (p : Path) : Bool := l.decodes p && (l.receiving.get p).isSome

/-- A frame is being received on some decoded path (R31). -/
def Link.arriving (l : Link) : Bool := l.arrivingOn .one || l.arrivingOn .two

/-! ## Copies and outcome (R34, R35) -/

/-- A copy is VALID. -/
def Copy.isValid : Copy → Bool
  | .valid _ => true
  | _ => false

/-- The reply of a VALID copy. -/
def Copy.reply : Copy → Option Reply
  | .valid r => some r
  | _ => none

/-- The class of a copy (R51). -/
def Copy.result : Copy → CopyResult
  | .silent => .silent
  | .bad => .bad
  | .wrong => .wrong
  | .valid _ => .valid

/-- A path's result in an exchange, NONE for an undecoded path (R34, R51). -/
def Exchange.result (x : Exchange) (p : Path) : CopyResult :=
  if x.decodes p then (x.copies.get p).result else .absent

/-- The outcomes of a reply-expecting exchange (R35). -/
inductive LinkOutcome where
  | good
  | rescued
  | timeout
  | error
  deriving DecidableEq, Repr

/-- The outcome, from the receive-path result and the check-path result (R35). -/
def outcomeOf : CopyResult → CopyResult → LinkOutcome
  | .valid, _ => .good
  | _, .valid => .rescued
  | .silent, .silent => .timeout
  | .silent, .absent => .timeout
  | _, _ => .error

/-- The outcome of an exchange (R35). -/
def Exchange.outcome (x : Exchange) : LinkOutcome := outcomeOf (x.result x.receive) (x.result (otherPath x.receive))

/-- The copy taken, if any (R35). -/
def Exchange.taken (x : Exchange) : Option Reply :=
  match x.outcome with
  | .good => (x.copies.get x.receive).reply
  | .rescued => (x.copies.get (otherPath x.receive)).reply
  | .timeout | .error => none

/-- The exchange as the capture record and a late frame's class name it (R51). -/
def Exchange.ident (x : Exchange) : ExchangeId :=
  { kind := x.request.kind, address := x.request.address, tag := x.tag, slot := x.request.slot }

/-! ## Path state (R40 to R43) -/

/-- The entry of CHECK_PATH_DISTURBED. -/
def disturbedKey : AlertKey := alertKey .checkPathDisturbed

/-- The entry of PATH_DOWN of a path. -/
def downKey (p : Path) : AlertKey := alertKey .pathDown (pathNumber p)

/-- The exchange's end settles a path's count: a path the exchange decoded and, in SINGLE, the receive path
(R40, R44; assumption 10). -/
def Link.settles (l : Link) (x : Exchange) (p : Path) : Bool :=
  x.decodes p && (decide (l.pathMode = .dual) || decide (p = l.receivePath))

/-- A path's consecutive non-VALID count and its PATH_DOWN at an exchange end (R40, R42). -/
def Link.settlePath (x : Exchange) (p : Path) (l : Link) : Link :=
  if l.settles x p then
    if (x.copies.get p).isValid then { l with nonValid := l.nonValid.set p 0, down := l.down.set p false }
    else
      let n := min Config.pathRun (l.nonValid.get p + 1)
      { l with nonValid := l.nonValid.set p n,
               down := l.down.set p (l.down.get p || decide (n = Config.pathRun)) }
  else l

/-- The check path is accounted for at this exchange end: the exchange ran in DUAL and DUAL is in force (R40,
R44; assumption 10). -/
def Link.witnessed (l : Link) (x : Exchange) : Bool := decide (x.mode = .dual) && decide (l.pathMode = .dual)

/-- The check run count after R40. -/
def Link.checkRunAfter (l : Link) (x : Exchange) : Nat :=
  if (x.copies.get (otherPath x.receive)).isValid then min Config.pathRun (l.checkRun + 1) else 0

/-- CPD after R41. -/
def Link.cpdAfter (l : Link) (x : Exchange) : Bool :=
  let receive := (x.copies.get x.receive).isValid
  let check := (x.copies.get (otherPath x.receive)).isValid
  if receive && !check then true
  else if l.checkRunAfter x = Config.pathRun then false
  else l.cpd

/-- The switch of R43 is made, with path counts, PATH_DOWN and CPD as R40 to R42 have left them. -/
def Link.switches (l : Link) (x : Exchange) (cpd : Bool) : Bool :=
  (decide (x.outcome = .rescued) && !cpd) ||
    (l.down.get x.receive && !l.down.get (otherPath x.receive))

/-- The paths whose PATH_DOWN a change raised, or lowered, in ascending number. -/
def downChanges (before after : PerPath Bool) (rises : Bool) : List AlertKey :=
  ([Path.one, .two].filter (fun p =>
    decide (before.get p ≠ after.get p) && decide (after.get p = rises))).map downKey

/-- The path state at the end of a reply-expecting exchange: R40, R41, R42, R43 in order, each change of a
condition reported as its rule makes it (assumption 11). -/
def State.settlePaths (x : Exchange) (s : State) : State :=
  let l := (s.link.settlePath x .one).settlePath x .two
  let reports (s1 : State) : State :=
    s1.reportAll (downChanges s.link.down l.down false) (downChanges s.link.down l.down true)
  if s.link.witnessed x then
    let cpd := s.link.cpdAfter x
    if l.switches x cpd then
      let s1 : State := { s with link := { l with receivePath := otherPath x.receive, cpd := true, checkRun := 0 } }
      (reports (s1.reportChange disturbedKey s.link.cpd cpd)).reportChange disturbedKey cpd true
    else
      let s1 : State := { s with link := { l with cpd := cpd, checkRun := s.link.checkRunAfter x } }
      reports (s1.reportChange disturbedKey s.link.cpd cpd)
  else reports { s with link := l }

/-! ## Counters (R48, R49) -/

/-- The entry of COUNT_PERIOD. -/
def countPeriodKey : AlertKey := alertKey .countPeriod

/-- A path is charged with an error at an exchange end (R48). -/
def Exchange.charges (x : Exchange) (p : Path) : Bool :=
  match x.result p with
  | .bad | .wrong => true
  | .silent => decide (x.result (otherPath p) = .valid)
  | _ => false

/-- 1 for a thing that holds, 0 otherwise. -/
def oneIf (b : Bool) : Nat := if b then 1 else 0

/-- The counters after an exchange end (R48). -/
def Counters.settle (x : Exchange) (c : Counters) : Counters :=
  if c.full then c
  else
    { c with
      exchanges := c.exchanges + 1,
      errors := c.errors + oneIf (decide (x.outcome = .timeout ∨ x.outcome = .error)),
      pathErrors := { one := c.pathErrors.one + oneIf (x.charges .one),
                      two := c.pathErrors.two + oneIf (x.charges .two) } }

/-- The counters settled at an exchange end, with COUNT_PERIOD (R48, R49). -/
def State.settleCounters (x : Exchange) (s : State) : State :=
  let c := s.link.counters.settle x
  let s1 : State := { s with link := { s.link with counters := c } }
  s1.reportChange countPeriodKey s.link.counters.full c.full

/-- The counters after a duplicate or a late frame (R48). -/
def Counters.stray (c : Counters) : Counters :=
  if c.full then c else { c with strays := min Config.counterTop (c.strays + 1) }

/-- COUNTER RESET (R49). -/
def State.counterReset (s : State) : State × Answer :=
  let s1 : State := { s with link := { s.link with counters := .zero } }
  (s1.reportChange countPeriodKey s.link.counters.full false, accepted)

/-! ## Link exceptions (R50 to R52) -/

/-- A link exception: the capture record is written unless frozen, then the event is reported (R50 to R52). -/
def State.noteException (c : Capture) (s : State) : State :=
  let s1 : State := { s with link := { s.link with
    capture := if s.link.frozen then s.link.capture else some c } }
  s1.linkExceptionEvent

/-- The capture of the exchange end with a TIMEOUT or ERROR outcome (R51). -/
def Exchange.capture (x : Exchange) : Capture :=
  { outcome := if x.outcome = .timeout then .timeout else .error, exchange := some x.ident,
    results := { one := x.result .one, two := x.result .two } }

/-- The link exception of an exchange end, if it is one (R50). -/
def State.noteOutcome (x : Exchange) (s : State) : State :=
  if x.outcome = .timeout ∨ x.outcome = .error then s.noteException x.capture else s

/-- A stray frame on a path: the Stray Count, then the capture record and the event (R36, R37, R48, R51). -/
def State.noteStray (kind : ExceptionKind) (x : Option ExchangeId) (p : Path) (r : CopyResult) (s : State) : State :=
  let s1 : State := { s with link := { s.link with counters := s.link.counters.stray } }
  let results : PerPath CopyResult := { one := .absent, two := .absent }
  s1.noteException { outcome := kind, exchange := x, results := results.set p r }

/-! ## The path orders (R45, R46) -/

/-- PATH FORCE of a path (R45). -/
def State.forcePath (p : Path) (s : State) : State :=
  let s1 : State := { s with link := { s.link with
    receivePath := p, cpd := false, checkRun := 0, nonValid := { one := 0, two := 0 } } }
  s1.reportChange disturbedKey s.link.cpd false

/-- PATH FORCE (R45). -/
def State.pathForce (n : Nat) (s : State) : State × Answer :=
  match n with
  | 1 => (s.forcePath .one, accepted)
  | 2 => (s.forcePath .two, accepted)
  | _ => (s, refused .badLocation)

/-- Entry to SINGLE (R46): CPD falls, then the check path's PATH_DOWN. -/
def State.enterSingle (s : State) : State :=
  let check := otherPath s.link.receivePath
  let s1 : State := { s with link := { s.link with
    pathMode := .single, cpd := false, checkRun := 0, nonValid := s.link.nonValid.set check 0,
    down := s.link.down.set check false } }
  (s1.reportChange disturbedKey s.link.cpd false).reportChange (downKey check) (s.link.down.get check) false

/-- Entry to DUAL (R46). -/
def State.enterDual (s : State) : State :=
  let check := otherPath s.link.receivePath
  { s with link := { s.link with
    pathMode := .dual, checkRun := 0, nonValid := s.link.nonValid.set check 0 } }

/-- PATH MODE (R46). -/
def State.pathModeOrder (m : PathMode) (s : State) : State × Answer :=
  (if s.link.pathMode = m then s
   else match m with
     | .single => s.enterSingle
     | .dual => s.enterDual, accepted)

/-- The link conditions that stand after RESTART, reported once more: PATH_DOWN, CHECK_PATH_DISTURBED,
COUNT_PERIOD (R47, R178). -/
def State.reportLink (s : State) : State :=
  s.reportAll []
    (([Path.one, .two].filter (fun p => s.link.down.get p)).map downKey ++
      (if s.link.cpd then [disturbedKey] else []) ++
      (if s.link.counters.full then [countPeriodKey] else []))

end Sys2Proof.Machine
end

