-- ==== Sys2Proof/Machine/Sequencer.lean ====
section
/-! DEFINITION. The Cycle Sequencer (chapter 04): what a slot yields, the walk, the choice of the next request,
and the entry to STANDBY. -/

namespace Sys2Proof.Machine

/-! ## Requests (R30, R54, R55, R58, R60) -/

/-- A request handed over becomes the held request (R31). -/
def State.handOver (r : Request) (s : State) : State := { s with link := { s.link with held := some r } }

/-- A request is held, in flight, or chosen and being built (R54, R62, R63). -/
def State.requestOut (s : State) : Bool :=
  s.link.held.isSome || s.sequencer.building.isSome ||
    (match s.link.phase with
     | .sending _ | .awaiting _ => true
     | .idle | .guarding _ _ => false)

/-- The broadcast address (R30). -/
def broadcastAddress : Nat := 127

/-- A MARK with the current interval number and L (R60, R181). -/
def State.markRequest (s : State) : Request :=
  { kind := .mark, address := broadcastAddress,
    payload := [byteOf s.sequencer.interval, byteOf s.par.intervalLength], slot := none, fate := .judge }

/-- An IVR to a station for the current interval (R55, R181). -/
def State.ivrRequest (n slot : Nat) (s : State) : Request :=
  { kind := .ivr, address := (s.tables.station n).address, payload := [byteOf s.sequencer.interval],
    slot := some slot, fate := .judge }

/-- The SGS of a gantry whose entry a COMMAND slot takes: the record is changed, the entry leaves the queue
(R58, R147). -/
def State.handOverSgs (g slot : Nat) (s : State) : State :=
  let r := (s.deliveryRec g).handOver
  ((s.setDelivery g r).dequeue g).handOver
    { kind := .sgs, address := (s.tables.gantry g).address, payload := sgsPayload r, slot := some slot,
      fate := .judge }

/-- The SGQ of the refresh rotation, which moves on (R58, R151). -/
def State.handOverSgq (slot : Nat) (s : State) : State :=
  (s.handOver
    { kind := .sgq, address := (s.tables.gantry s.composer.rotation).address, payload := [],
      slot := some slot, fate := .judge }).rotate

/-! ## Slots and the walk (R54 to R58) -/

/-- The lowest-numbered station of the segment not taken for the open interval (R56). -/
def State.lowestUntaken (s : State) : Option Nat :=
  (List.range s.stationCount).find? (fun n => !(s.stationRec n).taken)

/-- A COMMAND slot (R58). -/
def State.takeCommand (i : Nat) (s : State) : State :=
  match selectEntry s.composer.queue with
  | some e => if s.signing then s.handOverSgs e.gantry i else s.handOverSgq i
  | none => s.handOverSgq i

/-- What the slot at a position yields, none when it is skipped (R55 to R58). A CENTRE slot yields a request
that is still to be built (R159). -/
def State.takeSlot (i : Nat) (slot : Slot) (s : State) : Option State :=
  match slot with
  | .station n =>
    if s.intervalOpen && !(s.stationRec n).taken then some (s.handOver (s.ivrRequest n i)) else none
  | .spare =>
    if s.intervalOpen then s.lowestUntaken.map (fun n => s.handOver (s.ivrRequest n i)) else none
  | .centre => some { s with sequencer := { s.sequencer with building := some (some i) } }
  | .command => some (s.takeCommand i)

/-- The position after a position, wrapping at the Cycle Table's end (R54). -/
def State.positionAfter (i : Nat) (s : State) : Nat := if i + 1 < s.tables.cycle.length then i + 1 else 0

/-- The walk: slots taken one after another until one yields a request, at most `fuel` of them (R54). -/
def State.walkFrom : Nat → State → State
  | 0, s => s
  | fuel + 1, s =>
    let i := s.sequencer.position
    let s1 : State := { s with sequencer := { s.sequencer with position := s.positionAfter i } }
    match (s.tables.cycle.getD i none).bind (fun slot => s1.takeSlot i slot) with
    | some s2 => s2
    | none => State.walkFrom fuel s1

/-- One walk: it reaches a request within one pass of the table (R54). -/
def State.walk (s : State) : State := State.walkFrom (s.tables.cycle.length + 1) s

/-- The choice of the next request in the loaded cycle: a pending MARK first, else the walk (R54). -/
def State.chooseRequest (s : State) : State :=
  if s.sequencer.markPending then
    ({ s with sequencer := { s.sequencer with markPending := false } } : State).handOver s.markRequest
  else s.walk

/-! ## Entries (R53, R62, R63) -/

/-- The Cycle Sequencer's part of every entry to STANDBY: the entry column of R53, and slot 0 at once when no
request is held or in flight and no choice is still to be made (R62). A close still to be counted in STARTUP
is not counted any more (R26). -/
def State.enterStandby (s : State) : State :=
  let s1 : State := { s with
    sequencer := { s.sequencer with
      position := 0, interval := 0, markPending := false,
      intervalTimer := some (s.par.intervalLength * 1000), evaluationTimer := none, idleWait := none },
    countOwed := none }
  if s1.sequencer.choiceOwed || s1.requestOut then s1 else s1.walk

/-- The Cycle Sequencer's part of a return to UNCONFIGURED: the timers stop, and the idle wait starts now when
no request is held or in flight (R23, R63, R64). -/
def State.stopCycle (s : State) : State :=
  { s with sequencer := { s.sequencer with
      markPending := false, intervalTimer := none, evaluationTimer := none, choiceOwed := false,
      idleWait := if s.requestOut then none else some Config.builtInIdleWait } }

/-! ## Requests overtaken by a mode change (R21, R23, R29, R148, R156) -/

/-- A request overtaken by a mode change: a discard stands. -/
def Request.overtaken (fate : ReplyFate) (r : Request) : Request :=
  if r.fate = .discard then r else { r with fate := fate }

/-- The request in hand, held or in flight, overtaken by a mode change. -/
def State.overtake (fate : ReplyFate) (s : State) : State :=
  { s with link := { s.link with
      held := s.link.held.map (Request.overtaken fate),
      phase := match s.link.phase with
        | .sending x => .sending { x with request := x.request.overtaken fate }
        | .awaiting x => .awaiting { x with request := x.request.overtaken fate }
        | .idle => .idle
        | .guarding gap remaining => .guarding gap remaining } }

end Sys2Proof.Machine
end

