-- ==== Sys2Proof/Machine/TableChecks.lean ====
section
/-! DEFINITION. TABLE LOAD and TABLE CHECK on the table store (chapter 01): the checks of a load, the writing
of an accepted one, and the cross-checks. The mode's part of both orders is in Modes.lean. -/

namespace Sys2Proof.Machine

/-! ## TABLE LOAD (R3, R4) -/

/-- The declared length's range by section code (R3, the table store table). -/
def lengthInRange (sect length : Nat) : Bool :=
  match sect with
  | 1 => decide (length = 1)
  | 2 => inRange 1 48 length
  | 3 => inRange 1 32 length
  | 4 => inRange 1 6 length
  | 5 => inRange 1 128 length
  | _ => false

/-- Records written at consecutive places from an index; other places are kept (R4). -/
def writeFrom {α : Type} (i : Nat) (records : List α) (places : List (Option α)) : List (Option α) :=
  (List.range records.length).foldl (fun ps j => ps.set (i + j) records[j]?) places

/-- A section after an accepted load (R4): emptied first when the declared length changes. -/
def loadSection {α : Type} (length firstIndex : Nat) (records : List α) (places : List (Option α)) :
    List (Option α) :=
  writeFrom firstIndex records (if places.length = length then places else List.replicate length none)

/-- The table store after a TABLE LOAD, or the record index and item code of the failing check (R3). Items are
1 SECTION, 2 LENGTH, 3 INDEX, and 3 plus the position of a failing field (R183). -/
def Tables.load (t : Tables) (sect length firstIndex : Nat) (records : List (List Byte)) :
    Tables ⊕ (Nat × Nat) :=
  if !inRange 1 5 sect then .inr (0, 1)
  else if !lengthInRange sect length then .inr (0, 2)
  else if length < firstIndex + records.length ∨ (records = [] ∧ firstIndex ≠ 0) then .inr (firstIndex, 3)
  else
    let fieldFails (e : Nat × Nat) : Tables ⊕ (Nat × Nat) := .inr (e.1, 3 + e.2)
    match sect with
    | 1 => match readRecords readParams firstIndex records with
      | .inl rs => .inl { t with params := loadSection length firstIndex rs t.params }
      | .inr e => fieldFails e
    | 2 => match readRecords readStation firstIndex records with
      | .inl rs => .inl { t with stations := loadSection length firstIndex rs t.stations }
      | .inr e => fieldFails e
    | 3 => match readRecords readGantry firstIndex records with
      | .inl rs => .inl { t with gantries := loadSection length firstIndex rs t.gantries }
      | .inr e => fieldFails e
    | 4 => match readRecords readBand firstIndex records with
      | .inl rs => .inl { t with bands := loadSection length firstIndex rs t.bands }
      | .inr e => fieldFails e
    | _ => match readRecords readSlot firstIndex records with
      | .inl rs => .inl { t with cycle := loadSection length firstIndex rs t.cycle }
      | .inr e => fieldFails e

/-! ## TABLE CHECK (R12 to R16) -/

/-- What a failing cross-check identifies: the section code and the record index (R12). -/
abbrev CheckFault := Nat × Nat

/-- The record index at which a section is incomplete (R13). -/
def firstHole {α : Type} (places : List (Option α)) : Option Nat :=
  if places.isEmpty then some 0 else places.findIdx? Option.isNone

/-- The first number below `n` for which a check fails, under a section code. -/
def firstBad (sect n : Nat) (bad : Nat → Bool) : Option CheckFault :=
  ((List.range n).find? bad).map (fun i => (sect, i))

/-- COMPLETE (R13). -/
def Tables.checkComplete (t : Tables) : Option CheckFault :=
  ((firstHole t.params).map (fun i => (1, i))).or <| ((firstHole t.stations).map (fun i => (2, i))).or <|
    ((firstHole t.gantries).map (fun i => (3, i))).or <| ((firstHole t.bands).map (fun i => (4, i))).or <|
      (firstHole t.cycle).map (fun i => (5, i))

/-- The addresses in sequence, each with the record it stands in (R13). -/
def Tables.addresses (t : Tables) : List (CheckFault × Nat) :=
  (List.range t.stations.length).map (fun n => ((2, n), (t.station n).address)) ++
    (List.range t.gantries.length).map (fun g => ((3, g), (t.gantry g).address))

/-- The first entry of an address sequence that equals one seen before it. -/
def firstRepeat (seen : List Nat) : List (CheckFault × Nat) → Option CheckFault
  | [] => none
  | (at_, a) :: rest => if seen.contains a then some at_ else firstRepeat (a :: seen) rest

/-- ADDRESS (R13). -/
def Tables.checkAddress (t : Tables) (trunk : Nat) : Option CheckFault := firstRepeat [trunk] t.addresses

/-- WINDOW (R14). -/
def Tables.checkWindow (t : Tables) : Option CheckFault :=
  firstBad 3 t.gantries.length (fun g =>
    (t.gantry g).window.any (fun n => decide (t.stations.length ≤ n ∨ (t.station n).governing < g)))

/-- STATION_LANES (R14). -/
def Tables.checkStationLanes (t : Tables) : Option CheckFault :=
  firstBad 2 t.stations.length (fun n =>
    let d := t.station n
    let g := t.gantry d.governing
    decide (t.gantries.length ≤ d.governing ∨ g.lanes < d.runningLanes) || (d.shoulder && !g.shoulder))

/-- CYCLE_STATION (R15). -/
def Tables.checkCycleStation (t : Tables) : Option CheckFault :=
  firstBad 5 t.cycle.length (fun i =>
    match t.cycle.getD i none with
    | some (.station n) => decide (t.stations.length ≤ n)
    | _ => false)

/-- CYCLE_COVERAGE (R15). -/
def Tables.checkCycleCoverage (t : Tables) : Option CheckFault :=
  firstBad 2 t.stations.length (fun n => !t.cycle.contains (some (.station n)))

/-- CYCLE_KINDS (R15). -/
def Tables.checkCycleKinds (t : Tables) : Option CheckFault :=
  if t.cycle.contains (some .centre) && t.cycle.contains (some .command) then none else some (5, 0)

/-- BAND_ORDER (R16): the record index reported is that of the later band. -/
def Tables.checkBandOrder (t : Tables) : Option CheckFault :=
  firstBad 4 t.bands.length (fun i =>
    match t.band i, t.band (i + 1) with
    | some b, some b' => decide (b.von < b'.von ∨ b'.oon < b.oon ∨ b.limit < b'.limit)
    | _, _ => false)

/-- BAND_HYSTERESIS (R16). -/
def Tables.checkBandHysteresis (t : Tables) : Option CheckFault :=
  firstBad 4 t.bands.length (fun i =>
    match t.band (i + 1) with
    | some b => decide (b.voff ≤ b.von ∨ b.oon ≤ b.ooff)
    | none => false)

/-- A limit is NL or a member of the Display Set (R16). -/
def Params.displays (p : Params) : Limit → Bool
  | .kmh v => p.displaySet.contains v
  | .nl => true

/-- DISPLAY (R16): the gantries first, then the bands. -/
def Tables.checkDisplay (t : Tables) : Option CheckFault :=
  (firstBad 3 t.gantries.length (fun g =>
    !(t.par.displays (t.gantry g).gmax && t.par.displays (t.gantry g).startupLimit))).or
  (firstBad 4 t.bands.length (fun i =>
    match t.band (i + 1) with
    | some b => !t.par.displaySet.contains b.limit
    | none => false))

/-- FALLBACK (R16). -/
def Tables.checkFallback (t : Tables) : Option CheckFault :=
  firstBad 3 t.gantries.length (fun g => decide (t.bands.length < (t.gantry g).fallback))

/-- TIMING (R16): E exceeds L − 2 s. -/
def Tables.checkTiming (t : Tables) : Option CheckFault :=
  if t.par.intervalLength < t.par.evaluationOffset + 2 then some (1, 0) else none

/-- The cross-checks in the order of R12's table: the first failure as its item code 19 to 30 (R183) with the
section code and record index, or none when all pass. -/
def Tables.crossCheck (t : Tables) (trunk : Nat) : Option (Nat × CheckFault) :=
  let checks := [t.checkComplete, t.checkAddress trunk, t.checkWindow, t.checkStationLanes, t.checkCycleStation,
    t.checkCycleCoverage, t.checkCycleKinds, t.checkBandOrder, t.checkBandHysteresis, t.checkDisplay,
    t.checkFallback, t.checkTiming]
  ((List.range checks.length).zip checks).findSome? (fun x => x.2.map (fun f => (19 + x.1, f)))

end Sys2Proof.Machine
end

