-- ==== Sys2Proof/Machine/Modes.lean ====
section
/-! DEFINITION. Mode Control (chapter 02): the transitions of the segment mode, and the MODE, TABLE LOAD, TABLE
CHECK and RESTART orders; the interval close as every block takes it. -/

namespace Sys2Proof.Machine

/-! ## MODE RUN and MODE STANDBY (R19 to R21, R25) -/

/-- Entry to STARTUP: the count at 0, and a pass from the most downstream gantry (R25). -/
def State.enterStartup (s : State) : State :=
  let s1 : State := { s with modeControl := { s.modeControl with mode := .startup, startupCount := 0 } }
  s1.requestPass s1.lastGantry

/-- MODE RUN (R19). -/
def State.modeRun (s : State) : State × Answer :=
  match s.mode with
  | .unconfigured => (s, refused .wrongMode)
  | .standby => (s.enterStartup, accepted)
  | .startup | .active => (s, accepted)

/-- Entry to STANDBY from STARTUP or ACTIVE (R21, R156). -/
def State.stopSigning (s : State) : State :=
  ((((s.setMode .standby).stopDemands).clearDemands).overtake .judgeOnly).enterStandby

/-- MODE STANDBY (R20). -/
def State.modeStandby (s : State) : State × Answer :=
  match s.mode with
  | .unconfigured => (s, refused .wrongMode)
  | .standby => (s, accepted)
  | .startup | .active => if s.shoulderRunning then (s, refused .busy) else (s.stopSigning, accepted)

/-! ## TABLE LOAD and TABLE CHECK (R2, R4, R12, R22 to R24) -/

/-- The summary round in progress ends (R162). -/
def State.endRound (s : State) : State := { s with centre := { s.centre with round := none } }

/-- The return from STANDBY to UNCONFIGURED (R23, R24). -/
def State.returnToUnconfigured (s : State) : State :=
  let emptied := ((((s.setMode .unconfigured).emptyRecords).resetSpeed).resetClosures).resetComposer
  (((emptied.lowerTableBound).overtake .discard).endRound).stopCycle

/-- TABLE LOAD (R2 to R4). -/
def State.tableLoad (sect length firstIndex : Nat) (records : List (List Byte)) (s : State) : State × Answer :=
  if s.signing then (s, refused .wrongMode)
  else
    match s.tables.load sect length firstIndex records with
    | .inr (i, item) => (s, refused .badTable (.table sect i item))
    | .inl t =>
      let s1 : State := { s with tables := t, modeControl := { s.modeControl with tableChecked := false } }
      (if s.mode = .standby then s1.returnToUnconfigured else s1, accepted)

/-- Entry to STANDBY from UNCONFIGURED by a TABLE CHECK that passes (R22). -/
def State.startMeasuring (s : State) : State :=
  let s1 : State := { s with modeControl := { s.modeControl with mode := .standby, tableChecked := true } }
  ((s1.emptyRecords).resetSpeed).enterStandby

/-- TABLE CHECK (R12). -/
def State.tableCheck (s : State) : State × Answer :=
  if s.configured then (s, accepted)
  else
    match s.tables.crossCheck s.straps.trunkAddress with
    | some (item, sect, i) => (s, refused .badTable (.table sect i item))
    | none => (s.startMeasuring, accepted)

/-! ## RESTART (R28, R29, R47, R154, R165, R178) -/

/-- The entry of CENTRE_LINK_LOST. -/
def centreLostKey : AlertKey := alertKey .centreLinkLost

/-- The conditions whose owners survive RESTART, reported once more as present, in the order of R178. -/
def State.reportAgain (s : State) : State :=
  let s1 := s.reportLink
  let signs := ((List.range Config.maxGantries).filter (fun g => (s.deliveryRec g).signFault)).map
    (alertKey .signFault ·)
  let s2 := s1.reportAll [] signs
  if s.centre.link = .lost then s2.raise centreLostKey else s2

/-- The Alert Unit cleared by RESTART, with the capture record released (R52, R178). -/
def State.clearAlerts (s : State) : State :=
  { s with alerts := .reset, link := { s.link with frozen := false } }

/-- The Report Queue emptied and the round ended by RESTART (R29, R158). -/
def State.clearReports (s : State) : State :=
  { s with centre := { s.centre with queue := [], round := none } }

/-- RESTART, before its response is admitted (R28). -/
def State.restart (s : State) : State × Answer :=
  let mode : Mode := if s.modeControl.tableChecked then .standby else .unconfigured
  let s1 : State := { s with modeControl := { s.modeControl with mode := mode, startupCount := 0 } }
  let s2 := ((((s1.emptyRecords).resetSpeed).resetClosures).clearDemands).overtake .judgeOnly
  let s3 := ((s2.clearReports).clearAlerts).reportAgain
  (if s3.configured then s3.enterStandby else s3, accepted)

/-! ## Interval closes (R26, R59, R61, R78, R162) -/

/-- Mode Control counts an interval close in STARTUP, and ends the phase when the count is complete (R26). -/
def State.countClose (s : State) : State :=
  if s.mode = .startup then
    let n := s.modeControl.startupCount + 1
    let s1 : State := { s with modeControl := { s.modeControl with startupCount := n } }
    if s.par.startupEvaluations ≤ n then (s1.setMode .active).requestPass s.lastGantry else s1
  else s

/-- A close whose count is still owed is counted (R26). -/
def State.payCount (s : State) : State :=
  if s.countOwed.isSome then ({ s with countOwed := none } : State).countClose else s

/-- After the band evaluation, a close that waits for no visit is counted (R26). -/
def State.countEvaluated (s : State) : State := if s.countOwed = some 0 then s.payCount else s

/-- After a visit that follows the band evaluation, a close that has waited for its visits, or to the end of the
pass, is counted (R26). -/
def State.countVisited (s : State) : State :=
  match s.countOwed with
  | none => s
  | some n =>
    if s.evaluationsAsked ≠ 0 then s
    else if n ≤ 1 ∨ s.composer.pass = none then s.payCount
    else { s with countOwed := some (n - 1) }

/-- Centre Exchange starts a summary round for the interval that closed (R162). -/
def State.startRound (s : State) : State :=
  { s with centre := { s.centre with
      round := some { serial := s.centre.rounds, interval := s.sequencer.interval, cursor := 0 },
      rounds := s.centre.rounds + 1 } }

/-- Mode Control's part of a close in STARTUP: counted now, or after the band evaluation the close asked for
and so many visits of its pass (R26). -/
def State.noteClose (order : CountOrder) (s : State) : State :=
  if s.mode = .startup then
    match order with
    | .countFirst => s.countClose
    | .evaluationFirst visits => { s with countOwed := some visits }
  else s

/-- The close of the open interval, reported to Interval Reduction, Mode Control and Centre Exchange (R61). -/
def State.closeInterval (order : CountOrder) (s : State) : State :=
  let s1 : State := { s with sequencer := { s.sequencer with evaluationTimer := none } }
  ((((s1.payCount).closeReduction).noteClose order).startRound)

end Sys2Proof.Machine
end

