-- ==== Sys2Proof/Machine/Orders.lean ====
section
/-! DEFINITION. The order set: each order carried out by its owning block, and the response queued for it
(R166 to R168, R171). -/

namespace Sys2Proof.Machine

/-- LANE HEALTH CLEAR (R94). -/
def State.laneHealthClear (station lane : Nat) (s : State) : State × Answer :=
  if s.mode = .unconfigured then (s, refused .wrongMode)
  else if !s.hasLane station lane then (s, refused .badLocation)
  else if ((s.stationRec station).lane lane).run.isSome then (s, refused .busy)
  else (s.clearLane station lane, accepted)

/-- INJECT (R95). -/
def State.inject (station lane : Nat) (values : LaneValues) (length : Nat) (s : State) : State × Answer :=
  if s.mode = .unconfigured then (s, refused .wrongMode)
  else if !s.hasLane station lane then (s, refused .badLocation)
  else if ((s.stationRec station).lane lane).run.isSome || s.hasWaiting station lane then (s, refused .busy)
  else
    (s.startRun station lane values (runLength length),
     acceptedOrClamped (decide (runLength length ≠ length)) (.runLength (runLength length)))

/-- ALERT ACK (R52, R175). -/
def State.alertAck (scope : AckScope) (s : State) : State × Answer :=
  (({ s with alerts := s.alerts.acknowledge scope } : State).settleFreeze, accepted)

/-- ALERT MASK (R52, R176). -/
def State.alertMask (kind : AlertKind) (masked : Bool) (s : State) : State × Answer :=
  (({ s with alerts := if masked then s.alerts.mask kind else s.alerts.unmask kind } : State).settleFreeze, accepted)

/-- An order of valid form carried out by its owner (the order set of chapter 10). -/
def State.carryOut (o : Order) (s : State) : State × Answer :=
  match o with
  | .modeRun => s.modeRun
  | .modeStandby => s.modeStandby
  | .tableLoad sect length firstIndex records => s.tableLoad sect length firstIndex records
  | .tableCheck => s.tableCheck
  | .restart => s.restart
  | .laneClose id site lanes cap => s.closeRoad id site (some lanes) cap
  | .carriagewayClose id site cap => s.closeRoad id site none cap
  | .shoulderOpen id firstGantry lastGantry attested => s.shoulderOpen id firstGantry lastGantry attested
  | .orderClear id => s.orderClear id
  | .limitSet id firstGantry lastGantry cap legend => s.limitSet id firstGantry lastGantry cap legend
  | .laneHealthClear station lane => s.laneHealthClear station lane
  | .inject station lane values length => s.inject station lane values length
  | .pathForce path => s.pathForce path
  | .pathMode mode => s.pathModeOrder mode
  | .counterReset => s.counterReset
  | .query q => (s, s.query q)
  | .alertAck scope => s.alertAck scope
  | .alertMask kind masked => s.alertMask kind masked

/-- The order kind, the state and the answer of an order message (R166, R171, R185). -/
def State.answerOrder (m : OrderMessage) (s : State) : OrderKind × State × Answer :=
  match readOrder m with
  | .order kind o => (kind, s.carryOut o)
  | .refuse kind => (kind, s, refused .unknownOrder)
  | .badSubject => (.alertAck, s, refused .badLocation)

/-- The response to an order: a QUERY RESULT for an accepted query, else an ORDER RESPONSE (R166, R168). -/
def responseBody (message : Byte) (kind : OrderKind) (a : Answer) (mode : Mode) : ReportBody :=
  let r : Response := { message, kind, verdict := a.verdict, detail := a.detail, mode }
  match a.items with
  | some items => .queryResult r items
  | none => .orderResponse r

/-- One order of a reply taken: carried out whole, then its response admitted (R166). -/
def State.takeOrder (m : OrderMessage) (s : State) : State :=
  let x := s.answerOrder m
  x.2.1.offerReport (responseBody m.message x.1 x.2.2 x.2.1.mode)

/-- The entry of ORDER_OVERRUN. -/
def overrunKey : AlertKey := alertKey .orderOverrun

/-- The orders of a reply, up to the credit; orders beyond it, or that run past the end of the payload, are
discarded and reported as one ORDER_OVERRUN event after the others (R166, R167, R185). -/
def State.takeOrders (credit : Nat) (payload : List Byte) (s : State) : State :=
  let stated := statedOrders payload
  let messages := readMessages (min credit stated) (payload.drop 1)
  let s1 := messages.foldl (fun (t : State) m => t.takeOrder m) s
  if messages.length < stated then { s1 with alerts := s1.alerts.event overrunKey } else s1

end Sys2Proof.Machine
end

