-- ==== Sys2Proof/Machine/Exchange.lean ====
section
/-! DEFINITION. Centre Exchange (chapter 10): building a request, settling the end of a centre exchange, and the
choice of the next request at an exchange end with the building it may call for. -/

namespace Sys2Proof.Machine

/-! ## Building (R159 to R162, R184) -/

/-- A request payload as it fills: the messages so far, what has been carried, the places and bytes left, and
whether the filling has ended. -/
structure Filling where
  messages : List Byte
  places : Nat
  room : Nat
  ended : Bool
  notices : List CarriedNotice
  entries : List Nat
  part : Option (Nat × Nat)
  cursor : Option Nat
  deriving DecidableEq, Repr

/-- An empty filling: 4 places, and the 60 bytes less the credit and the count (R160, R183, R184). -/
def Filling.start : Filling :=
  { messages := [], places := Config.maxCredit, room := Config.maxPayload - 2, ended := false, notices := [],
    entries := [], part := none, cursor := none }

/-- No further report can be carried. -/
def Filling.over (f : Filling) : Bool := f.ended || decide (f.places = 0)

/-- A message that fits is added (R184). -/
def Filling.add (message : List Byte) (f : Filling) : Filling :=
  { f with messages := f.messages ++ message, places := f.places - 1, room := f.room - message.length }

/-- The class codes of an alert notice and a STATION SUMMARY (R183). -/
def noticeClass : Nat := 1

/-- See `noticeClass`. -/
def summaryClass : Nat := 2

/-- Tier 1: one owed notice (R160, R184). -/
def Filling.addNotice (u : AlertUnit) (f : Filling) (k : AlertKey) : Filling :=
  if f.over then f
  else
    let n : CarriedNotice := { key := k, present := u.present.contains k, latched := u.latched.contains k }
    let message := messageOf noticeClass (noticeBytes n)
    if message.length ≤ f.room then { f.add message with notices := f.notices ++ [n] } else { f with ended := true }

/-- The two header bytes and the four bytes of the fragment header (R183, R184). -/
def fragmentOverhead : Nat := 6

/-- Tier 2: one Report Queue entry, as one fragment from its delivered offset (R160, R184). -/
def Filling.addEntry (f : Filling) (r : Report) : Filling :=
  if f.over then f
  else if f.room < fragmentOverhead + 1 then { f with ended := true }
  else
    let rest := r.body.bytes.drop r.offset
    let size := min rest.length (f.room - fragmentOverhead)
    let ends := decide (size = rest.length)
    let f1 := f.add (messageOf r.body.classCode (fragmentHeader r.number r.offset ends ++ rest.take size))
    if ends then { f1 with entries := f.entries ++ [r.number] }
    else { f1 with part := some (r.number, r.offset + size), ended := true }

/-- Tier 3: one station at the cursor: its closed summary is carried, or it is passed over (R160, R162, R184). -/
def Filling.addSummary (f : Filling) (x : Nat × Option ClosedSummary) : Filling :=
  if f.over then f
  else
    match x.2 with
    | none => { f with cursor := some (x.1 + 1) }
    | some c =>
      let message := messageOf summaryClass c.bytes
      if message.length ≤ f.room then { f.add message with cursor := some (x.1 + 1) } else { f with ended := true }

/-- The closed summaries from a cursor upward. -/
def State.summariesFrom (cursor : Nat) (s : State) : List (Nat × Option ClosedSummary) :=
  (List.range' cursor (s.stationCount - cursor)).map (fun n => (n, (s.stationRec n).summary))

/-- The three tiers in order (R160). -/
def State.fill (s : State) : Filling :=
  let f1 := s.alerts.notices.foldl (Filling.addNotice s.alerts) Filling.start
  let f2 := s.centre.queue.foldl Filling.addEntry f1
  match s.centre.round with
  | none => f2
  | some r => (s.summariesFrom r.cursor).foldl Filling.addSummary f2

/-- The order credit (R161). -/
def State.credit (s : State) : Nat := min Config.maxCredit (Config.reportQueueSize - s.centre.queue.length)

/-- The carried set and the credit in flight of a request (R158). -/
def State.carriedBy (f : Filling) (s : State) : Carried :=
  { notices := f.notices, entries := f.entries, part := f.part,
    round := s.centre.round.map (fun r => (r.serial, f.cursor.getD r.cursor)), credit := s.credit }

/-- A CXE request (R183). -/
def State.centreRequest (f : Filling) (slot : Option Nat) (s : State) : Request :=
  { kind := .cxe, address := s.straps.trunkAddress,
    payload := [byteOf s.credit, byteOf (Config.maxCredit - f.places)] ++ f.messages, slot := slot, fate := .judge }

/-- A CXE request built from the state as it stands, and handed over (R159 to R161). -/
def State.buildCentre (slot : Option Nat) (s : State) : State :=
  let f := s.fill
  let s1 : State := { s with
    centre := { s.centre with carried := some (s.carriedBy f) },
    sequencer := { s.sequencer with building := none } }
  s1.handOver (s.centreRequest f slot)

/-! ## Settling (R163 to R165) -/

/-- The end of a centre exchange is settled: what was kept for it goes (R163, R164). -/
def State.dropCarried (s : State) : State := { s with centre := { s.centre with carried := none, unsettled := none } }

/-- The top of the consecutive failure count (R158). -/
def failureTop : Nat := 60

/-- A TIMEOUT or ERROR end settled (R163, R165). -/
def State.settleFailed (s : State) : State :=
  let n := min failureTop (s.centre.failures + 1)
  let lost := decide (s.centre.link = .linked) && decide (s.par.centreLossLimit ≤ n)
  let s1 : State := { s with centre := { s.centre with
    failures := n, link := if lost then .lost else s.centre.link } }
  (if lost then s1.raise centreLostKey else s1).dropCarried

/-- The centre link state at a received reply (R165). -/
def State.relink (s : State) : State :=
  let s1 : State := { s with centre := { s.centre with failures := 0, link := .linked } }
  if s.centre.link = .lost then s1.lower centreLostKey else s1

/-- Nothing carried and no credit. -/
def Carried.nothing : Carried := { notices := [], entries := [], part := none, round := none, credit := 0 }

/-- The queue entries of a settled request: those carried whole depart, the one carried in part moves on (R164,
R184). -/
def State.departCarried (c : Carried) (s : State) : State :=
  let s1 := c.entries.foldl (fun (t : State) n => t.departReport n) s
  match c.part with
  | some (n, offset) => s1.advanceOffset n offset
  | none => s1

/-- The round after a settled request: its cursor moves if it is the round the summaries came from, and it
ends past the last station (R162, R164). -/
def State.moveCursor (c : Carried) (s : State) : State :=
  match s.centre.round, c.round with
  | some r, some (serial, cursor) =>
    if r.serial = serial then
      { s with centre := { s.centre with
          round := if s.stationCount ≤ cursor then none else some { r with cursor := cursor } } }
    else s
  | _, _ => s

/-- A GOOD or RESCUED end settled, with the reply's payload (R164). -/
def State.settleReceived (payload : List Byte) (s : State) : State :=
  let c := s.centre.carried.getD .nothing
  let s1 := s.relink
  let s2 : State := { s1 with alerts := s1.alerts.deliver c.notices }
  ((((s2.departCarried c).moveCursor c).takeOrders c.credit payload).dropCarried)

/-- The end of a centre exchange still to be settled, if any, is settled (R159). -/
def State.settleCentre (s : State) : State :=
  match s.centre.unsettled with
  | none => s
  | some .failed => s.settleFailed
  | some (.received payload) => s.settleReceived payload

/-! ## Choosing with building (R54, R57, R64, R159) -/

/-- A request chosen and still to be built is built, after the previous end is settled (R159). -/
def State.completeBuild (s : State) : State :=
  match s.sequencer.building with
  | none => s
  | some slot => s.settleCentre.buildCentre slot

/-- The Cycle Sequencer chooses the next request and hands it over (R54). -/
def State.chooseNext (s : State) : State := s.chooseRequest.completeBuild

/-- The end of an exchange reaches the Cycle Sequencer: in UNCONFIGURED the idle wait starts; else the next
request is chosen, now or, where the orders of the reply come first, after them (R54, R57, R64). -/
def State.exchangeEnded (ordersFirst : Bool) (s : State) : State :=
  if s.configured then
    if ordersFirst then { s with sequencer := { s.sequencer with choiceOwed := true } } else s.chooseNext
  else { s with sequencer := { s.sequencer with idleWait := some Config.builtInIdleWait } }

/-- The choice that waited for the orders of a reply is made in the state they have left (R57, R62). -/
def State.payChoice (s : State) : State :=
  if s.sequencer.choiceOwed then
    ({ s with sequencer := { s.sequencer with choiceOwed := false } } : State).chooseNext
  else s

/-- An end settled as an event of its own: then the request of slot 0 that an entry to STANDBY has chosen is
built (R62), and a choice that waited is made (R57). -/
def State.settleNow (s : State) : State := (s.settleCentre.completeBuild).payChoice

end Sys2Proof.Machine
end

