-- ==== Sys2Proof/Machine/Link.lean ====
section
/-! DEFINITION. The exchange on the Segment Link (chapter 03): its start, frames, its end, and the handing on of
its outcome. -/

namespace Sys2Proof.Machine

/-! ## Start and end of transmission (R30 to R32) -/

/-- The exchange that a request starts: it keeps the path mode, receive path and reply timeout in force (R32,
R39). -/
def State.newExchange (r : Request) (s : State) : Exchange :=
  { request := r, tag := s.link.nextTag, mode := s.link.pathMode, receive := s.link.receivePath,
    copies := { one := .silent, two := .silent }, remaining := s.par.replyTimeout, expired := false,
    waitingCheck := false }

/-- A request's transmission starts (R30, R31). -/
def State.startTransmission (r : Request) (s : State) : State :=
  let x := s.newExchange r
  { s with link := { s.link with
      phase := .sending x, held := none, nextTag := (s.link.nextTag + 1) % 16, decodeMode := s.link.pathMode,
      receiving := { one := none, two := none }, lastExchange := some x.ident, driverEnable := true,
      transmitted := requestFrame r x.tag } }

/-- The transmission on both paths ends (R30). -/
def State.stopDriving (s : State) : State := { s with link := { s.link with driverEnable := false, transmitted := [] } }

/-- The exchange state changed. -/
def State.setPhase (p : LinkPhase) (s : State) : State := { s with link := { s.link with phase := p } }

/-- The evaluation timer starts and interval k opens (R60, R67). DESIGN CHOICE (assumption 38): k is the current
interval number, also where it has advanced since the MARK that ends was handed over; a timer that still runs from
that MARK is started anew by the next one's end, without a close. -/
def State.openAtMark (s : State) : State :=
  let s1 := s.openInterval
  { s1 with sequencer := { s1.sequencer with evaluationTimer := some (s.par.evaluationOffset * 1000) } }

/-- The MARK being sent was not overtaken by an entry to STANDBY or a return to UNCONFIGURED (R53, R65,
assumption 13). -/
def State.markStands (s : State) : Bool :=
  match s.link.phase with
  | .sending x => decide (x.request.fate = .judge)
  | .idle | .awaiting _ | .guarding _ _ => false

/-- The end of a MARK exchange (R31, R60), after any centre exchange end still to be settled (R166). -/
def State.endMark (s : State) : State :=
  let s1 := s.settleCentre
  let s2 := s1.setPhase .idle
  (if s1.configured && s1.markStands then s2.openAtMark else s2).exchangeEnded false

/-- The end of transmission of an exchange (R31). -/
def State.endTransmission (x : Exchange) (s : State) : State :=
  if x.request.kind = .mark then s.stopDriving.endMark else s.stopDriving.setPhase (.awaiting x)

/-! ## The end of a reply-expecting exchange (R33 to R35, R38) -/

/-- The state after a reply-expecting exchange: GUARD after a TIMEOUT with Late Guard enabled (R31, R38). -/
def State.phaseAfter (x : Exchange) (s : State) : LinkPhase :=
  if x.outcome = .timeout ∧ s.par.lateGuard = true then .guarding s.par.guardGap s.par.guardGap else .idle

/-- The outcome and any copy taken are handed to the block that asked for the exchange (R33). -/
def State.handOutcome (x : Exchange) (s : State) : State :=
  match x.request.kind with
  | .mark => s
  | .ivr => s.judgeIvr x.request.address x.taken
  | .sgs | .sgq => s.judgeSign x.request x.taken
  | .cxe => { s with centre := { s.centre with unsettled := some (match x.taken with
      | some r => .received r.payload
      | none => .failed) } }

/-- The orders of a reply come before the choice at this exchange end (R57). -/
def Exchange.ordersFirst (x : Exchange) (order : ChoiceOrder) : Bool :=
  decide (x.request.kind = .cxe) && x.taken.isSome && decide (order = .ordersFirst)

/-- An exchange settled and handed on (R33). -/
def State.concludeExchange (order : ChoiceOrder) (x : Exchange) (s : State) : State :=
  let s1 := ((s.settlePaths x).settleCounters x).noteOutcome x
  ((s1.setPhase (s1.phaseAfter x)).handOutcome x).exchangeEnded (x.ordersFirst order)

/-- The end of the exchange in AWAITING, after any centre exchange end still to be settled (R166). -/
def State.endExchange (order : ChoiceOrder) (s : State) : State :=
  let s1 := s.settleCentre
  match s1.link.phase with
  | .awaiting x => s1.concludeExchange order x
  | .idle | .sending _ | .guarding _ _ => s1

/-! ## Frames (R32 to R38) -/

/-- What is arriving on a path replaced. -/
def State.setReceiving (p : Path) (a : Option Arrival) (s : State) : State :=
  { s with link := { s.link with receiving := s.link.receiving.set p a } }

/-- How a frame that starts now on a decoded path stands to the exchange (R32, R37). -/
def Link.arrivalNow (l : Link) : Arrival :=
  match l.phase with
  | .awaiting x => if x.expired then .late else .belongs
  | .idle | .sending _ | .guarding _ _ => .late

/-- The start of a frame on a path: seen on a decoded path alone (R30, R37, R44). -/
def State.startFrame (p : Path) (s : State) : State :=
  if s.link.decodes p && (s.link.receiving.get p).isNone then s.setReceiving p (some s.link.arrivalNow) else s

/-- A frame that belongs to the exchange is arriving on a path the exchange decodes. -/
def State.belongingOn (x : Exchange) (p : Path) (s : State) : Bool :=
  x.decodes p && decide (s.link.receiving.get p = some .belongs)

/-- The class of a late or duplicate frame in the capture record (R51). -/
def FrameClass.result : FrameClass → CopyResult
  | .valid => .valid
  | .bad => .bad
  | .wrong => .wrong

/-- A late frame's end: a stray, and in GUARD the measurement starts again (R37, R38). -/
def State.endLate (p : Path) (codingError : Bool) (bytes : List Byte) (s : State) : State :=
  let cls := classifyLate s.link.lastExchange codingError bytes
  let s1 := s.noteStray .late s.link.lastExchange p cls.result
  match s1.link.phase with
  | .guarding gap _ => s1.setPhase (.guarding gap gap)
  | .idle | .sending _ | .awaiting _ => s1

/-- A path's copy after a frame that belongs to the exchange (R34). -/
def Copy.after (cls : FrameClass) (bytes : List Byte) : Copy → Copy
  | .valid r => .valid r
  | .silent => match cls with
    | .valid => .valid (replyOf bytes)
    | .bad => .bad
    | .wrong => .wrong
  | .bad => if cls = .valid then .valid (replyOf bytes) else .bad
  | .wrong => if cls = .valid then .valid (replyOf bytes) else .wrong

/-- The exchange after a frame that belongs to it has ended on a path, and whether it ends with it (R33, R34):
`others` says whether a frame that belongs to it is still arriving on the other path. -/
def Exchange.afterFrame (x : Exchange) (p : Path) (cls : FrameClass) (bytes : List Byte) (others : Bool) :
    Exchange × Bool :=
  let first := decide (cls = .valid) && !(x.copies.get p).isValid
  let x1 := { x with copies := x.copies.set p ((x.copies.get p).after cls bytes) }
  if x.waitingCheck then (x1, decide (p ≠ x.receive))
  else if decide (p = x.receive) && first then ({ x1 with waitingCheck := others }, !others)
  else (x1, x.expired && !others)

/-- A VALID frame after a VALID copy on its path is a duplicate (R36). -/
def Exchange.duplicates (x : Exchange) (p : Path) (cls : FrameClass) : Bool :=
  decide (cls = .valid) && (x.copies.get p).isValid

/-- The end of a frame that belongs to the exchange in AWAITING (R33, R34, R36). DESIGN CHOICE (assumption 34):
where the end of a duplicate is also the end of the exchange, the stray is settled before the exchange. -/
def State.endBelonging (x : Exchange) (p : Path) (codingError : Bool) (bytes : List Byte) (order : ChoiceOrder)
    (s : State) : State :=
  let cls := classify x.ident codingError bytes
  let s1 := if x.duplicates p cls then s.noteStray .duplicate (some x.ident) p .valid else s
  let y := x.afterFrame p cls bytes (s.belongingOn x (otherPath p))
  let s2 := s1.setPhase (.awaiting y.1)
  if y.2 then s2.endExchange order else s2

/-- The end of a frame that outlives the exchange it belongs to: a VALID one is a duplicate, any other is
discarded (R34, R36; assumption 12). -/
def State.endOutlived (p : Path) (codingError : Bool) (bytes : List Byte) (s : State) : State :=
  if classifyLate s.link.lastExchange codingError bytes = .valid then
    s.noteStray .duplicate s.link.lastExchange p .valid
  else s

/-- The end of a frame on a path (R34, R36, R37). A frame whose start was not seen is not seen, nor one on a
path decoded no longer (assumption 9). -/
def State.endFrame (p : Path) (codingError : Bool) (bytes : List Byte) (order : ChoiceOrder) (s : State) : State :=
  match s.link.receiving.get p with
  | none => s
  | some a =>
    let s1 := s.setReceiving p none
    if !s.link.decodes p then s1
    else
      match a, s.link.phase with
      | .late, _ => s1.endLate p codingError bytes
      | .belongs, .awaiting x => s1.endBelonging x p codingError bytes order
      | .belongs, _ => s1.endOutlived p codingError bytes

/-- The expiry of the reply timeout (R33). -/
def State.expireReply (order : ChoiceOrder) (s : State) : State :=
  match s.link.phase with
  | .awaiting x =>
    if x.expired then s
    else
      let s1 := s.setPhase (.awaiting { x with remaining := 0, expired := true })
      if s.belongingOn x .one || s.belongingOn x .two then s1 else s1.endExchange order
  | .idle | .sending _ | .guarding _ _ => s

/-! ## Leaving IDLE and GUARD (R31, R38) -/

/-- A held request starts in IDLE once no frame is arriving on a decoded path, and in GUARD once the guard gap
has run out (R31). -/
def State.startHeld (s : State) : State :=
  match s.link.held with
  | none => s
  | some r =>
    if s.link.arriving then s
    else
      match s.link.phase with
      | .idle | .guarding _ 0 => s.startTransmission r
      | .guarding _ (_ + 1) | .sending _ | .awaiting _ => s

/-- The guard gap has elapsed: SENDING with a held request, else IDLE (R31, R38). -/
def State.leaveGuard (s : State) : State :=
  match s.link.phase with
  | .guarding _ _ =>
    if s.link.arriving then s
    else
      match s.link.held with
      | some r => s.startTransmission r
      | none => s.setPhase .idle
  | .idle | .sending _ | .awaiting _ => s

end Sys2Proof.Machine
end

