-- ==== Sys2Proof/Machine/Tick.lean ====
section
/-! DEFINITION. The passing of one millisecond: every running timer counts (assumption 3). An expiry itself is a
command. -/

namespace Sys2Proof.Machine

/-- A stopped or running timer, one millisecond on. -/
def tickTimer (t : Option Nat) : Option Nat := t.map (· - 1)

/-- The Cycle Sequencer's timers (R53). -/
def Sequencer.tick (q : Sequencer) : Sequencer :=
  { q with intervalTimer := tickTimer q.intervalTimer, evaluationTimer := tickTimer q.evaluationTimer,
           idleWait := tickTimer q.idleWait }

/-- The reply timeout, from the end of transmission (R32), and the guard gap, while every decoded path is quiet
(R38). -/
def Link.tickPhase (l : Link) : LinkPhase :=
  match l.phase with
  | .awaiting x => .awaiting { x with remaining := x.remaining - 1 }
  | .guarding gap remaining => .guarding gap (if l.arriving then remaining else remaining - 1)
  | .idle => .idle
  | .sending x => .sending x

/-- A dwell timer (R116, R117): running down to 0 makes the expiry event due. -/
def GantryControl.tick (c : GantryControl) : GantryControl :=
  { c with dwell := c.dwell - 1, expiryDue := c.expiryDue || decide (c.dwell = 1) }

/-- A merge-hold timer (R137). -/
def Closure.tick (c : Closure) : Closure :=
  { c with body := match c.body with
      | .road r => .road r
      | .shoulder o => .shoulder { o with mergeHold := tickTimer o.mergeHold } }

/-- The time since the last SET, saturating (R145). -/
def DeliveryRec.tick (r : DeliveryRec) : DeliveryRec :=
  { r with sinceSet := r.sinceSet.map (fun t => min Config.sinceSetTop (t + 1)) }

/-- One millisecond passes; nothing runs while the reset input is asserted. -/
def State.tick (s : State) : State :=
  if s.resetAsserted then s
  else
    { s with
      sequencer := s.sequencer.tick,
      link := { s.link with phase := s.link.tickPhase },
      control := s.control.map GantryControl.tick,
      closures := { s.closures with register := s.closures.register.map Closure.tick },
      composer := { s.composer with delivery := s.composer.delivery.map DeliveryRec.tick } }

end Sys2Proof.Machine
end

