-- ==== Sys2Proof/Machine/ResetCommands.lean ====
section
/-! DEFINITION. The meanings of HARDWARE_RESET and RESET_RELEASE, and the form shared by every other command. -/

namespace Sys2Proof.Machine

/-- The outcome of a step of the part. -/
abbrev Result := Host.Outcome State Fault Refusal

/-- An event of the part: nothing happens in it while the reset input is asserted (chapter 12, assumption 1). -/
def State.unlessReset (event : State → State) (s : State) : Result :=
  .next (if s.resetAsserted then s else event s)

/-- HARDWARE_RESET (R1, R17, R39 and the hardware-reset column of every chapter): only the queue of commands
stands. -/
def execHardwareReset (s : State) : Result := .next { State.reset with pending := s.pending }

/-- The trunk address of the straps: 1 for a value of 0 or above 120 (R187). -/
def trunkAddressOf (straps : BitVec 7) : Nat :=
  if 1 ≤ straps.toNat ∧ straps.toNat ≤ 120 then straps.toNat else 1

/-- The path mode of the strap: high gives SINGLE (R187). -/
def pathModeOf (high : Bool) : PathMode := if high then .single else .dual

/-- The straps are read and the idle wait starts (R64, R187). -/
def State.release (rate : BitVec 2) (trunk : BitVec 7) (pathModeHigh : Bool) (s : State) : State :=
  { s with
    resetAsserted := false,
    straps := { rate := rate, trunkAddress := trunkAddressOf trunk },
    link := { s.link with pathMode := pathModeOf pathModeHigh, decodeMode := pathModeOf pathModeHigh },
    sequencer := { s.sequencer with idleWait := some Config.builtInIdleWait } }

/-- RESET_RELEASE (R187): it does not occur while the input is not asserted (assumption 1). -/
def execResetRelease (rate : BitVec 2) (trunk : BitVec 7) (pathModeHigh : Bool) (s : State) : Result :=
  .next (if s.resetAsserted then s.release rate trunk pathModeHigh else s)

end Sys2Proof.Machine
end

