-- ==== Sys2Proof/Machine/CentreCommands.lean ====
section
/-! DEFINITION. The meanings of the two commands that settle the end of a centre exchange. Each occurs only
while an end of its kind waits (assumption 1). -/

namespace Sys2Proof.Machine

/-- CENTRE_EXCHANGE_RECEIVED (R164). -/
def execCentreExchangeReceived (s : State) : Result :=
  s.unlessReset (fun t => match t.centre.unsettled with
    | some (.received _) => t.settleNow
    | some .failed | none => t)

/-- CENTRE_EXCHANGE_FAILED (R163). -/
def execCentreExchangeFailed (s : State) : Result :=
  s.unlessReset (fun t => match t.centre.unsettled with
    | some .failed => t.settleNow
    | some (.received _) | none => t)

end Sys2Proof.Machine
end

