-- ==== Sys2Proof/Machine/ClockCommands.lean ====
section
/-! DEFINITION. The meanings of the Cycle Sequencer's timer commands. -/

namespace Sys2Proof.Machine

/-- The built-in idle wait has run out: a CXE without a slot index is chosen and built (R64). -/
def State.expireIdleWait (s : State) : State :=
  if s.sequencer.idleWait.isSome then
    ({ s with sequencer := { s.sequencer with idleWait := none, building := some none } } : State).completeBuild
  else s

/-- BUILT_IN_IDLE_WAIT_EXPIRY (R64). -/
def execBuiltInIdleWaitExpiry (s : State) : Result := s.unlessReset State.expireIdleWait

/-- The interval timer has run out: reload, close an interval still open, advance k, set MARK pending (R59). -/
def State.expireInterval (order : CountOrder) (s : State) : State :=
  if s.sequencer.intervalTimer.isSome then
    let s1 : State := { s with sequencer := { s.sequencer with
      intervalTimer := some (s.par.intervalLength * 1000) } }
    let s2 := if s1.intervalOpen then s1.closeInterval order else s1
    { s2 with sequencer := { s2.sequencer with
        interval := (s2.sequencer.interval + 1) % 256, markPending := true } }
  else s

/-- INTERVAL_TIMER_EXPIRY (R59). -/
def execIntervalTimerExpiry (order : CountOrder) (s : State) : Result :=
  s.unlessReset (fun t => t.expireInterval order)

/-- EVALUATION_TIMER_EXPIRY: the interval close (R61). -/
def execEvaluationTimerExpiry (order : CountOrder) (s : State) : Result :=
  s.unlessReset (fun t => if t.intervalOpen then t.closeInterval order else t)

end Sys2Proof.Machine
end

