-- ==== Sys2Proof/Machine/ControlCommands.lean ====
section
/-! DEFINITION. The meanings of the commands of Speed Control, the Closure Unit, the composer and Detector
Supervision. -/

namespace Sys2Proof.Machine

/-- A band evaluation asked for is taken; in UNCONFIGURED and STANDBY it is dropped. A close counted right after
its band evaluation is counted then (R26, R100). DESIGN CHOICE (assumption 35): what drops an evaluation is the mode
when it is taken, so one asked for before an entry to STANDBY or a RESTART is evaluated when a MODE RUN has led back
to STARTUP by then. -/
def State.takeEvaluation (s : State) : State :=
  if s.evaluationsAsked = 0 then s
  else
    let s1 : State := { s with evaluationsAsked := s.evaluationsAsked - 1 }
    (if s1.signing then s1.evaluateBands else s1).countEvaluated

/-- BAND_EVALUATION (R100). -/
def execBandEvaluation (s : State) : Result := s.unlessReset State.takeEvaluation

/-- WAITING_RESULT_OFFER (R97). -/
def execWaitingResultOffer (s : State) : Result := s.unlessReset State.offerWaiting

/-- COMPOSITION_PASS_VISIT (R141): the running pass visits its next gantry. A close counted after the visit is
counted then (R26). -/
def execCompositionPassVisit (s : State) : Result :=
  s.unlessReset (fun t => match t.composer.pass with
    | some g => (t.visit g).countVisited
    | none => t)

/-- DWELL_TIMER_EXPIRY (R117): no dwell timer runs in UNCONFIGURED and STANDBY. -/
def execDwellTimerExpiry (gantry : Nat) (s : State) : Result :=
  s.unlessReset (fun t => if t.signing && decide (gantry < t.gantryCount) then t.expireDwell gantry else t)

/-- MERGE_HOLD_EXPIRY (R138). -/
def execMergeHoldExpiry (slot : Nat) (s : State) : Result := s.unlessReset (fun t => t.expireHold slot)

/-- REFRESH_TIME_REACHED (R152). -/
def execRefreshTimeReached (gantry : Nat) (s : State) : Result :=
  s.unlessReset (fun t => if t.configured && decide (gantry < t.gantryCount) then t.reachRefresh gantry else t)

end Sys2Proof.Machine
end

