-- ==== Sys2Proof/Machine/LinkCommands.lean ====
section
/-! DEFINITION. The meanings of the commands of the Segment Link. -/

namespace Sys2Proof.Machine

/-- TRANSMISSION_START (R31). -/
def execTransmissionStart (s : State) : Result := s.unlessReset State.startHeld

/-- END_OF_TRANSMISSION (R31). -/
def execEndOfTransmission (s : State) : Result :=
  s.unlessReset (fun t => match t.link.phase with
    | .sending x => t.endTransmission x
    | .idle | .awaiting _ | .guarding _ _ => t)

/-- FRAME_START (R37). -/
def execFrameStart (path : Path) (s : State) : Result := s.unlessReset (fun t => t.startFrame path)

/-- FRAME_END (R34). -/
def execFrameEnd (path : Path) (codingError : Bool) (bytes : List Byte) (order : ChoiceOrder) (s : State) : Result :=
  s.unlessReset (fun t => t.endFrame path codingError bytes order)

/-- REPLY_TIMEOUT (R33). -/
def execReplyTimeout (order : ChoiceOrder) (s : State) : Result := s.unlessReset (fun t => t.expireReply order)

/-- GUARD_GAP_ELAPSED (R38). -/
def execGuardGapElapsed (s : State) : Result := s.unlessReset State.leaveGuard

end Sys2Proof.Machine
end

