-- ==== Sys2Proof/Machine/Dispatch.lean ====
section
/-! DEFINITION. The meaning of every command, one arm per row of the opcode table. -/

namespace Sys2Proof.Machine

/-- A command's effect on everything but the queue. -/
def exec (i : Instr) (s : State) : Host.Outcome State Fault Refusal :=
  match i with
  | .hardwareReset => Sys2Proof.Machine.execHardwareReset s
  | .resetRelease rate trunk pathModeHigh => Sys2Proof.Machine.execResetRelease rate trunk pathModeHigh s
  | .transmissionStart => Sys2Proof.Machine.execTransmissionStart s
  | .endOfTransmission => Sys2Proof.Machine.execEndOfTransmission s
  | .frameEnd path codingError bytes order => Sys2Proof.Machine.execFrameEnd path codingError bytes order s
  | .replyTimeout order => Sys2Proof.Machine.execReplyTimeout order s
  | .guardGapElapsed => Sys2Proof.Machine.execGuardGapElapsed s
  | .builtInIdleWaitExpiry => Sys2Proof.Machine.execBuiltInIdleWaitExpiry s
  | .intervalTimerExpiry order => Sys2Proof.Machine.execIntervalTimerExpiry order s
  | .evaluationTimerExpiry order => Sys2Proof.Machine.execEvaluationTimerExpiry order s
  | .bandEvaluation => Sys2Proof.Machine.execBandEvaluation s
  | .waitingResultOffer => Sys2Proof.Machine.execWaitingResultOffer s
  | .centreExchangeReceived => Sys2Proof.Machine.execCentreExchangeReceived s
  | .centreExchangeFailed => Sys2Proof.Machine.execCentreExchangeFailed s
  | .compositionPassVisit => Sys2Proof.Machine.execCompositionPassVisit s
  | .dwellTimerExpiry gantry => Sys2Proof.Machine.execDwellTimerExpiry gantry s
  | .mergeHoldExpiry slot => Sys2Proof.Machine.execMergeHoldExpiry slot s
  | .refreshTimeReached gantry => Sys2Proof.Machine.execRefreshTimeReached gantry s
  | .frameStart path => Sys2Proof.Machine.execFrameStart path s

end Sys2Proof.Machine
end

