-- ==== Sys2Proof/Safety.lean ====
section
/-! DEFINITION. What a sound state of the part is: the laws the manual states for its tables, queues, lists and
counters, as predicates on one state, and a safe step. -/

namespace Sys2Proof.Machine

/-- A step that answers a next state. -/
def SafeStep (s : State) : Prop := ∃ t, step s = .next t

/-- The law of the Report Queue, and what a waiting result says of it (R169). -/
abbrev State.ReportsWf (s : State) : Prop :=
  s.centre.queue.length ≤ Config.reportQueueSize ∧
    (s.waiting = [] ∨ s.centre.queue.length = Config.reportQueueSize)

/-- The Alert Table, the Notice List and the alert line agree (R172 to R177): a present entry is latched; no
entry is present twice; the Notice List holds no entry twice, and only latched entries of UNMASKED kinds; the line
is asserted exactly while an entry of an UNMASKED kind is latched. -/
abbrev AlertUnit.Wf (u : AlertUnit) : Prop :=
  (∀ k ∈ u.present, k ∈ u.latched) ∧ u.present.Nodup ∧ u.notices.Nodup ∧
    (∀ k ∈ u.notices, k ∈ u.latched ∧ u.unmasked k.kind = true) ∧
    u.line = u.latched.any (fun k => u.unmasked k.kind)

/-- The capture record is frozen exactly while the latch of an UNMASKED LINK_EXCEPTION stands (R52). -/
abbrev State.CaptureWf (s : State) : Prop :=
  s.link.frozen = (s.alerts.unmasked .linkException && s.alerts.latched.contains linkExceptionKey)

/-- The table-checked flag is set exactly while the segment has left UNCONFIGURED (R17). -/
abbrev State.FlagWf (s : State) : Prop := s.modeControl.tableChecked = s.configured

/-- In UNCONFIGURED and STANDBY no pass runs, nothing is queued for the signs, and no gantry holds a demand
(R18, R21, R140, R156). -/
abbrev State.QuietWf (s : State) : Prop :=
  s.signing = false →
    s.composer.pass = none ∧ s.composer.queue = [] ∧
      (∀ c ∈ s.control, c.demanded = none) ∧ (∀ r ∈ s.composer.delivery, r.demanded = none)

/-- The law of the Sign Command Queue: at most one entry per gantry (R146). -/
abbrev State.SignQueueWf (s : State) : Prop := (s.composer.queue.map QueueEntry.gantry).Nodup

/-- The ids of the Closure Register. -/
def ClosureUnit.ids (u : ClosureUnit) : List Nat := u.register.map Closure.id

/-- The ids of the road closures of the Closure Register. -/
def ClosureUnit.roadIds (u : ClosureUnit) : List Nat :=
  u.register.filterMap (fun c => match c.body with
    | .road _ => some c.id
    | .shoulder _ => none)

/-- The ranges of the shoulder orders of the register. -/
def ClosureUnit.ranges (u : ClosureUnit) : List (Nat × Nat) :=
  u.shoulderOrders.map (fun x => (x.2.firstGantry, x.2.lastGantry))

/-- Two ranges of gantries have no gantry in common. -/
abbrev apart (a b : Nat × Nat) : Prop := a.2 < b.1 ∨ b.2 < a.1

/-- The registers and the Lane Overlay Lists (R106, R119, R120, R131): at most 8 and 12 entries, one slot of 0 to
11 each; one namespace of ids, none held twice; the law of the lists, at most 4 ids and none twice, each the id
of a road closure of the register; and the law of shoulder coverage, no gantry under two shoulder orders. -/
abbrev State.OrdersWf (s : State) : Prop :=
  s.limitOrders.length ≤ Config.limitRegisterSize ∧
    s.closures.register.length ≤ Config.closureRegisterSize ∧
    (s.limitOrders.map LimitOrder.id ++ s.closures.ids).Nodup ∧
    (s.closures.register.map Closure.slot).Nodup ∧
    (∀ c ∈ s.closures.register, c.slot < Config.closureRegisterSize) ∧
    (∀ row ∈ s.closures.overlays, ∀ ids ∈ row,
      ids.length ≤ Config.overlaySize ∧ ids.Nodup ∧ ∀ id ∈ ids, id ∈ s.closures.roadIds) ∧
    s.closures.ranges.Pairwise apart

/-- The five link counters (R48): none above 65535, and Error Count and the path errors never above Exchange
Count. -/
abbrev Counters.Wf (c : Counters) : Prop :=
  c.exchanges ≤ Config.counterTop ∧ c.strays ≤ Config.counterTop ∧ c.errors ≤ c.exchanges ∧
    c.pathErrors.one ≤ c.exchanges ∧ c.pathErrors.two ≤ c.exchanges

/-- The ranges of the Link Controller's counts (the state table of chapter 03). -/
abbrev Link.CountsWf (l : Link) : Prop :=
  l.nextTag < 16 ∧ l.checkRun ≤ Config.pathRun ∧ l.nonValid.one ≤ Config.pathRun ∧
    l.nonValid.two ≤ Config.pathRun ∧ l.counters.Wf

/-- An exchange is being sent or awaits its reply. -/
def LinkPhase.inFlight : LinkPhase → Bool
  | .sending _ | .awaiting _ => true
  | .idle | .guarding _ _ => false

/-- One request at a time (R31, R54, R64): a request is held only while none is in flight; none is being built
between commands; the built-in idle wait runs only in UNCONFIGURED with no request out; a choice that waits for
the orders of a reply waits with no request out; and nothing is out while the reset input is asserted. -/
abbrev State.OneRequestWf (s : State) : Prop :=
  (s.link.held.isSome = true → s.link.phase.inFlight = false) ∧
    s.sequencer.building = none ∧
    (s.sequencer.idleWait.isSome = true → s.configured = false ∧ s.requestOut = false) ∧
    (s.sequencer.choiceOwed = true → s.configured = true ∧ s.requestOut = false) ∧
    (s.resetAsserted = true → s.configured = false ∧ s.requestOut = false)

/-! ## Sizes -/

/-- The state has its fixed sizes: 48 Station Records of 6 Lane Records, 32 Gantry Control Records and Delivery
Records, 32 shoulder states, and a Lane Overlay List for each of 32 by 6 gantry-lanes (chapter 00). -/
abbrev State.ShapeWf (s : State) : Prop :=
  s.stations.length = Config.maxStations ∧ (∀ r ∈ s.stations, r.lanes.length = Config.maxLanes) ∧
    s.control.length = Config.maxGantries ∧ s.composer.delivery.length = Config.maxGantries ∧
    s.closures.shoulders.length = Config.maxGantries ∧ s.closures.overlays.length = Config.maxGantries ∧
    ∀ row ∈ s.closures.overlays, row.length = Config.maxLanes

/-! ## The table store (R3, R5, R7 to R11) -/

/-- A Segment Parameters record within the ranges of R5 and R7. -/
abbrev Params.Wf (p : Params) : Prop :=
  (10 ≤ p.intervalLength ∧ p.intervalLength ≤ 60) ∧ (2 ≤ p.evaluationOffset ∧ p.evaluationOffset ≤ 58) ∧
    (1 ≤ p.replyTimeout ∧ p.replyTimeout ≤ 20) ∧ (1 ≤ p.guardGap ∧ p.guardGap ≤ 10) ∧
    (10 ≤ p.step ∧ p.step ≤ 40 ∧ p.step % 10 = 0) ∧
    (p.displaySet ≠ [] ∧ p.displaySet.length ≤ 11 ∧
      (∀ v ∈ p.displaySet, 20 ≤ v ∧ v ≤ 120 ∧ v % 10 = 0) ∧ p.displaySet.Pairwise (· < ·)) ∧
    (2 ≤ p.faultPersistence ∧ p.faultPersistence ≤ 15) ∧
    (1 ≤ p.plausibilityThreshold ∧ p.plausibilityThreshold ≤ 127) ∧
    (200 ≤ p.stoppedOccupancy ∧ p.stoppedOccupancy ≤ 800) ∧ (10 ≤ p.clearOccupancy ∧ p.clearOccupancy ≤ 200) ∧
    (2 ≤ p.startupEvaluations ∧ p.startupEvaluations ≤ 10) ∧ (30 ≤ p.refreshTime ∧ p.refreshTime ≤ 300) ∧
    (10 ≤ p.mergeHold ∧ p.mergeHold ≤ 120) ∧ (5 ≤ p.centreLossLimit ∧ p.centreLossLimit ≤ 60)

/-- A Station Table record within the ranges, and with the lane counts, of R8. -/
abbrev StationDesc.Wf (d : StationDesc) : Prop :=
  (1 ≤ d.address ∧ d.address ≤ 120) ∧ (100 ≤ d.spacing ∧ d.spacing ≤ 1000) ∧
    (1 ≤ d.laneCount ∧ d.laneCount ≤ 6) ∧ (1 ≤ d.runningLanes ∧ d.runningLanes ≤ 5) ∧ d.governing ≤ 31 ∧
    (1 ≤ d.weight ∧ d.weight ≤ 8) ∧ (1 ≤ d.hold ∧ d.hold ≤ 10)

/-- A limit of 20 to 120 in tens, or NL (R9). -/
def Limit.inTable : Limit → Bool
  | .kmh v => decide (20 ≤ v ∧ v ≤ 120 ∧ v % 10 = 0)
  | .nl => true

/-- A Gantry Map record within the ranges, and with the window, of R9. -/
abbrev GantryDesc.Wf (d : GantryDesc) : Prop :=
  (1 ≤ d.address ∧ d.address ≤ 120) ∧ (2 ≤ d.lanes ∧ d.lanes ≤ 5) ∧ d.gmax.inTable = true ∧ (10 ≤ d.dwell ∧ d.dwell ≤ 900) ∧
    (1 ≤ d.window.length ∧ d.window.length ≤ 3 ∧ (∀ n ∈ d.window, n ≤ 47) ∧ d.window.Nodup) ∧ d.fallback ≤ 6 ∧
    d.startupLimit.inTable = true ∧ (1 ≤ d.unsupportedHold ∧ d.unsupportedHold ≤ 10)

/-- A Band Table record within the ranges of R10. -/
abbrev BandDesc.Wf (b : BandDesc) : Prop :=
  b.von ≤ 250 ∧ b.voff ≤ 250 ∧ b.oon ≤ 1000 ∧ b.ooff ≤ 1000 ∧ (20 ≤ b.limit ∧ b.limit ≤ 120 ∧ b.limit % 10 = 0) ∧
    (b.legend = .blank ∨ b.legend = .congestion ∨ b.legend = .queueAhead)

/-- A Cycle Table record of R11: a station number is 0 to 47. -/
def Slot.inTable : Slot → Bool
  | .station n => decide (n ≤ 47)
  | .centre | .command | .spare => true

/-- The table store holds sections of lengths in their ranges, or 0, and only records within their ranges (R3). -/
abbrev Tables.Wf (t : Tables) : Prop :=
  (t.params.length ≤ 1 ∧ ∀ o ∈ t.params, ∀ r ∈ o, r.Wf) ∧ (t.stations.length ≤ 48 ∧ ∀ o ∈ t.stations, ∀ r ∈ o, r.Wf) ∧
    (t.gantries.length ≤ 32 ∧ ∀ o ∈ t.gantries, ∀ r ∈ o, r.Wf) ∧ (t.bands.length ≤ 6 ∧ ∀ o ∈ t.bands, ∀ r ∈ o, r.Wf) ∧
    (t.cycle.length ≤ 128 ∧ ∀ o ∈ t.cycle, ∀ r ∈ o, r.inTable = true)

/-- The tables in use have passed TABLE CHECK (R1, R12, R17), and no mode but UNCONFIGURED stands while the reset
input is asserted. -/
abbrev State.CheckedWf (s : State) : Prop :=
  (s.resetAsserted = true → s.configured = false) ∧
    (s.configured = true → s.tables.crossCheck s.straps.trunkAddress = none)

/-! ## Registers, lists and the shoulder (R106, R119, R120, R131 to R138) -/

/-- The orders held lie on gantries of the segment, and none is held in UNCONFIGURED (R106, R119, R170). -/
abbrev State.PlacesWf (s : State) : Prop :=
  (s.configured = false → s.limitOrders = [] ∧ s.closures.register = []) ∧
    (∀ o ∈ s.limitOrders, o.firstGantry ≤ o.lastGantry ∧ o.lastGantry < s.gantryCount) ∧
    (∀ c ∈ s.closures.roads, c.site < s.gantryCount ∧ c.effective ≤ c.site ∧ c.site ≤ c.effective + 2) ∧
    ∀ x ∈ s.closures.shoulderOrders, x.2.firstGantry ≤ x.2.lastGantry ∧ x.2.lastGantry < s.gantryCount

/-- The ids of the road closures whose footprint covers a gantry-lane, in order of acceptance. -/
def State.footprintIds (g l : Nat) (s : State) : List Nat :=
  s.closures.register.filterMap (fun c => match c.body with
    | .road r => if (g, l) ∈ s.footprint r then some c.id else none
    | .shoulder _ => none)

/-- Each Lane Overlay List holds the ids of the orders whose footprint covers its gantry-lane, in order of
acceptance (R120). -/
abbrev State.OverlayWf (s : State) : Prop :=
  ∀ g < Config.maxGantries, ∀ l < Config.maxLanes, s.closures.overlay g l = s.footprintIds g l

/-- The shoulder state that an order gives a gantry of its range: OPEN from the front, or from first, down to
last, the front of a closing being MERGE instead (R133 to R138). -/
def ShoulderOrder.stateAt (o : ShoulderOrder) (g : Nat) : ShoulderState :=
  match o.front with
  | none => .opened
  | some f => if g < f then .closed else if g = f ∧ o.phase = .closing then .merge else .opened

/-- A shoulder order is in order: its front is a gantry of its range except in OPEN, where it is absent, and
its merge hold runs in CLOSING alone (R119). -/
abbrev ShoulderOrder.Wf (o : ShoulderOrder) : Prop :=
  (o.front = none ↔ o.phase = .opened) ∧ (∀ f ∈ o.front, o.firstGantry ≤ f ∧ f ≤ o.lastGantry) ∧
    (o.mergeHold ≠ none → o.phase = .closing)

/-- The shoulder orders and the shoulder states agree: each gantry has the state that the order covering it has
set, and CLOSED where none covers it (R130). -/
abbrev State.ShoulderWf (s : State) : Prop :=
  (∀ x ∈ s.closures.shoulderOrders, x.2.Wf) ∧
    (∀ x ∈ s.closures.shoulderOrders, ∀ g < Config.maxGantries, x.2.firstGantry ≤ g → g ≤ x.2.lastGantry →
      s.shoulder g = x.2.stateAt g) ∧
    ∀ g < Config.maxGantries, s.shoulder g ≠ .closed →
      ∃ x ∈ s.closures.shoulderOrders, x.2.firstGantry ≤ g ∧ g ≤ x.2.lastGantry

/-! ## What holds of a gantry that no pass has still to visit (R115, R125, R130) -/

/-- No running pass has still to visit a gantry: with the pass IDLE, of every gantry (R140). -/
def State.visited (g : Nat) (s : State) : Bool :=
  match s.composer.pass with
  | none => true
  | some n => decide (n < g)

/-- The law of the demanded limit (R115): a Display Set member or NL, never above the gantry's Gmax. -/
abbrev State.DemandWf (s : State) : Prop :=
  ∀ g < Config.maxGantries, ∀ l ∈ (s.gantryControl g).demanded,
    s.par.displays l = true ∧ s.par.value l ≤ s.par.value (s.tables.gantry g).gmax

/-- The law of the cascade (R115), of every gantry that no pass has still to visit: at most the cascade bound,
or the smallest Display Set member where the bound lies below it. -/
abbrev State.CascadeWf (s : State) : Prop :=
  s.signing = true → ∀ g < s.gantryCount, s.visited g = true → ∀ l ∈ (s.gantryControl g).demanded,
    ∀ b ∈ s.cascadeBound g,
      s.par.value l ≤ b ∨ (b < s.par.displaySet.headD 0 ∧ l = .kmh (s.par.displaySet.headD 0))

/-- The aspect demanded on a lane of a gantry. -/
def State.demandedAspect (g lane : Nat) (s : State) : Option Aspect :=
  (s.deliveryRec g).demanded.bind (fun d => onLane (s.tables.gantry g) d.aspects lane)

/-- The law of the shoulder (R130), of every gantry that no pass has still to visit: lane 0 has a demanded aspect
of rank below 2 only while the shoulder state is OPEN. -/
abbrev State.ShoulderDemandWf (s : State) : Prop :=
  s.signing = true → ∀ g < s.gantryCount, s.visited g = true → ∀ a ∈ s.demandedAspect g 0,
    a.rank < 2 → s.shoulder g = .opened

/-- The law of closure protection (R125): of every closure that is not CLOSURE_UNPROTECTED, the effective site
is fit once a pass has visited the site, and CLOSED is demanded there on its lanes once a pass has visited it. -/
abbrev State.ProtectionWf (s : State) : Prop :=
  s.signing = true → ∀ c ∈ s.closures.roads, c.unprotected = false →
    (s.visited c.site = true → s.fit c c.effective = true) ∧
      (s.visited c.effective = true → ∀ l ∈ c.lanesAt (s.tables.gantry c.effective),
        s.demandedAspect c.effective l = some .closed)

/-! ## The credit (R161, R166, R169) -/

/-- The kind of the request held, or else in flight. -/
def Link.outKind (l : Link) : Option RequestKind :=
  match l.held, l.phase with
  | some r, _ => some r.kind
  | none, .sending x | none, .awaiting x => some x.request.kind
  | none, .idle | none, .guarding _ _ => none

/-- The credit keeps room for every response (R161): while one is in flight, the Report Queue has room for as many
entries, and the request out is that centre exchange, or its end is still to be settled. -/
abbrev State.CreditWf (s : State) : Prop :=
  ∀ c ∈ s.centre.carried,
    s.centre.queue.length + c.credit ≤ Config.reportQueueSize ∧
      (s.centre.unsettled.isSome = true ∨ s.link.outKind = some .cxe)

end Sys2Proof.Machine
end

