-- ==== Sys2Proof/Certificates/Slice0/Obligations.lean ====
section
/-! DEFINITION. The statements for the provers. Each is about the model's `exec` or `step`, or about an operation
that the meanings call; its docstring names the rules it formalises. -/

open Sys2Proof Sys2Proof.Machine

/-! ## The queue of commands -/

/-- A step takes the command at the front of the queue and is its meaning on the state with the queue's rest. -/
def Obligations.StepRunsFrontCommand : Prop :=
  (∀ (c : Instr) (s : State), step { s with pending := c :: s.pending } = exec c s) ∧
  ∀ (c : Instr) (rest : List Instr) (s : State), s.pending = c :: rest → step s = exec c { s with pending := rest }

/-- The model's choice (assumption 3): on an empty queue one millisecond passes. Every running timer counts, a dwell
timer that runs down to 0 makes its expiry due (assumption 29), and nothing else changes; while the reset input is
asserted nothing at all. -/
def Obligations.EmptyQueuePassesOneMillisecond : Prop :=
  ∀ s : State, s.pending = [] →
    (s.resetAsserted = true → step s = .next s) ∧
    (s.resetAsserted = false → ∃ t, step s = .next t ∧
      t = { s with sequencer := t.sequencer, link := { s.link with phase := t.link.phase }, control := t.control,
                   closures := { s.closures with register := t.closures.register },
                   composer := { s.composer with delivery := t.composer.delivery } } ∧
      t.sequencer = { s.sequencer with
        intervalTimer := s.sequencer.intervalTimer.map (fun n => n - 1),
        evaluationTimer := s.sequencer.evaluationTimer.map (fun n => n - 1),
        idleWait := s.sequencer.idleWait.map (fun n => n - 1) } ∧
      (s.link.phase = .idle → t.link.phase = .idle) ∧
      (∀ x, s.link.phase = .sending x → t.link.phase = .sending x) ∧
      (∀ x, s.link.phase = .awaiting x → t.link.phase = .awaiting { x with remaining := x.remaining - 1 }) ∧
      (∀ gap n, s.link.phase = .guarding gap n →
        t.link.phase = .guarding gap (if s.link.arriving then n else n - 1)) ∧
      (∀ g, t.gantryControl g =
        { s.gantryControl g with
          dwell := (s.gantryControl g).dwell - 1,
          expiryDue := (s.gantryControl g).expiryDue || decide ((s.gantryControl g).dwell = 1) }) ∧
      (∀ g, t.deliveryRec g =
        { s.deliveryRec g with sinceSet := (s.deliveryRec g).sinceSet.map (fun n => min 300000 (n + 1)) }) ∧
      t.closures.register = s.closures.register.map (fun c => match c.body with
        | .road _ => c
        | .shoulder o => { c with body := .shoulder { o with mergeHold := o.mergeHold.map (fun n => n - 1) } }))

/-- No command stops the part, and none changes the queue of the commands that wait. Both are the model's choice: that
a command answers a next state also where its event cannot occur is assumption 1, and the queue is the model's own
(assumption 8). -/
def Obligations.EveryCommandAnswersNext : Prop :=
  ∀ (c : Instr) (s : State), ∃ t, exec c s = .next t ∧ t.pending = s.pending

/-- The machine right after a hardware reset meets every law of Safety.lean, with the queue empty. -/
def Obligations.ResetMeetsEveryLaw : Prop :=
  State.reset.pending = [] ∧ State.reset.ReportsWf ∧ State.reset.CreditWf ∧ State.reset.alerts.Wf ∧
    State.reset.CaptureWf ∧ State.reset.FlagWf ∧ State.reset.CheckedWf ∧ State.reset.ShapeWf ∧ State.reset.tables.Wf ∧
    State.reset.QuietWf ∧ State.reset.SignQueueWf ∧ State.reset.OrdersWf ∧ State.reset.PlacesWf ∧
    State.reset.OverlayWf ∧ State.reset.ShoulderWf ∧ State.reset.DemandWf ∧ State.reset.CascadeWf ∧
    State.reset.ShoulderDemandWf ∧ State.reset.ProtectionWf ∧ State.reset.link.CountsWf ∧ State.reset.OneRequestWf

/-! ## Reset and straps (R1, R17, R39, R48, R53, R66, R84, R99, R106, R119, R140, R145, R151, R158, R172, R187) -/

/-- HARDWARE_RESET: every item takes the value its chapter gives for a hardware reset; the queue of commands
stands. -/
def Obligations.HardwareResetResets : Prop :=
  ∀ s : State, ∃ t, exec .hardwareReset s = .next t ∧ t.pending = s.pending ∧ t.resetAsserted = true ∧
    t.modeControl = { mode := .unconfigured, tableChecked := false, startupCount := 0 } ∧
    t.tables = { params := [], stations := [], gantries := [], bands := [], cycle := [] } ∧
    (t.link.phase = .idle ∧ t.link.held = none ∧ t.link.nextTag = 0 ∧ t.link.receivePath = .one ∧
      t.link.cpd = false ∧ t.link.checkRun = 0 ∧ t.link.nonValid = { one := 0, two := 0 } ∧
      t.link.down = { one := false, two := false } ∧ t.link.capture = none ∧ t.link.frozen = false ∧
      t.link.counters = { exchanges := 0, errors := 0, strays := 0, pathErrors := { one := 0, two := 0 } } ∧
      t.link.driverEnable = false ∧ t.link.transmitted = [] ∧ t.link.lastExchange = none) ∧
    (t.sequencer.position = 0 ∧ t.sequencer.interval = 0 ∧ t.sequencer.markPending = false ∧
      t.sequencer.intervalTimer = none ∧ t.sequencer.evaluationTimer = none ∧ t.sequencer.idleWait = some 50) ∧
    (∀ n, (t.stationRec n).taken = false ∧ (t.stationRec n).poll = .never ∧ (t.stationRec n).status = none ∧
      (t.stationRec n).speed = none ∧ (t.stationRec n).occupancy = 0 ∧ (t.stationRec n).flow = 0 ∧
      (t.stationRec n).usable = 0 ∧ (t.stationRec n).smoothed = 0 ∧
      (t.stationRec n).seeded = false ∧ (t.stationRec n).stale = 0 ∧ (t.stationRec n).missed = 0 ∧
      (t.stationRec n).summary = none) ∧
    (∀ n l, ((t.stationRec n).lane l).values = none ∧ ((t.stationRec n).lane l).test = false ∧
      ((t.stationRec n).lane l).speed = none ∧ ((t.stationRec n).lane l).occupancy = 0 ∧
      ((t.stationRec n).lane l).count = 0 ∧ ((t.stationRec n).lane l).history = [] ∧
      ((t.stationRec n).lane l).context =
        { health := .ok, excluded := false, stuck := 0, silent := 0, normalRun := 0, plausibility := 0 } ∧
      ((t.stationRec n).lane l).run = none) ∧
    t.waiting = [] ∧
    (∀ g, (t.gantryControl g).band = 0 ∧ (t.gantryControl g).unsupported = 0 ∧
      (t.gantryControl g).demanded = none ∧ (t.gantryControl g).dwell = 0 ∧
      (t.gantryControl g).pendingIncrease = false) ∧
    t.limitOrders = [] ∧ t.closures.register = [] ∧ (∀ g l, t.closures.overlay g l = []) ∧
    (∀ g, t.shoulder g = .closed) ∧ t.composer.pass = none ∧ t.composer.queue = [] ∧ t.composer.rotation = 0 ∧
    (∀ g, (t.deliveryRec g).demanded = none ∧ (t.deliveryRec g).sent = none ∧ (t.deliveryRec g).setSequence = 0 ∧
      (t.deliveryRec g).confirmed = none ∧ (t.deliveryRec g).confirmedLegend = none ∧
      (t.deliveryRec g).state = .unknown ∧ (t.deliveryRec g).attempts = 0 ∧ (t.deliveryRec g).failedLanes = [] ∧
      (t.deliveryRec g).sinceSet = none ∧ (t.deliveryRec g).status = none) ∧
    (t.centre.queue = [] ∧ t.centre.nextReport = 0 ∧ t.centre.carried = none ∧ t.centre.round = none ∧
      t.centre.link = .linked ∧ t.centre.failures = 0) ∧
    (t.alerts.present = [] ∧ t.alerts.latched = [] ∧ t.alerts.notices = [] ∧ t.alerts.masked = [] ∧
      t.alerts.line = false)

/-- The straps are read at the release of the reset input and hold until the next hardware reset (R187). -/
def Obligations.ResetReleaseReadsStraps : Prop :=
  (∀ (rate : BitVec 2) (trunk : BitVec 7) (high : Bool) (s : State), s.resetAsserted = true →
    exec (.resetRelease rate trunk high) s = .next { s with
      resetAsserted := false,
      straps := { rate := rate,
                  trunkAddress := if 1 ≤ trunk.toNat ∧ trunk.toNat ≤ 120 then trunk.toNat else 1 },
      link := { s.link with pathMode := if high then .single else .dual,
                            decodeMode := if high then .single else .dual },
      sequencer := { s.sequencer with idleWait := some 50 } }) ∧
  (∀ x : Straps, (x.rate = 0 → x.bitRate = 250) ∧ (x.rate = 1 → x.bitRate = 500) ∧ (x.rate = 2 → x.bitRate = 1000) ∧
    (x.rate = 3 → x.bitRate = 250)) ∧
  ∀ (c : Instr) (s t : State), exec c s = .next t → c ≠ .hardwareReset → s.resetAsserted = false →
    t.straps = s.straps ∧ t.resetAsserted = false

/-! ## The exchange on the Segment Link -/

/-- TRANSMISSION_START and GUARD_GAP_ELAPSED: a held request starts on both paths with the next tag, and keeps the
path mode, receive path and reply timeout in force; a GUARD without a held request ends in IDLE (R30, R31, R32,
R38, R39, R180). The elapse of the gap is the command itself (assumption 1). -/
def Obligations.TransmissionStarts : Prop :=
  (∀ (s : State) (r : Request), s.resetAsserted = false → s.link.held = some r → s.link.arriving = false →
    ∃ t, t = { s with link := { s.link with
        phase := .sending { request := r, tag := s.link.nextTag, mode := s.link.pathMode,
                            receive := s.link.receivePath, copies := { one := .silent, two := .silent },
                            remaining := s.par.replyTimeout, expired := false, waitingCheck := false },
        held := none, nextTag := (s.link.nextTag + 1) % 16, decodeMode := s.link.pathMode,
        receiving := { one := none, two := none },
        lastExchange := some { kind := r.kind, address := r.address, tag := s.link.nextTag, slot := r.slot },
        driverEnable := true, transmitted := requestFrame r s.link.nextTag } } ∧
      (s.link.phase = .idle → exec .transmissionStart s = .next t) ∧
      (∀ gap n, s.link.phase = .guarding gap n → exec .guardGapElapsed s = .next t)) ∧
  (∀ (s : State) (gap n : Nat), s.resetAsserted = false → s.link.held = none → s.link.arriving = false →
    s.link.phase = .guarding gap n →
    exec .guardGapElapsed s = .next { s with link := { s.link with phase := .idle } }) ∧
  ∀ (r : Request) (tag : Nat), ∃ crc : List Byte, crc.length = 2 ∧
    requestFrame r tag = [byteOf r.address, byteOf r.kind.code, byteOf tag, byteOf r.payload.length] ++ r.payload ++ crc ∧
    natOf crc = crcOf ([byteOf r.address, byteOf r.kind.code, byteOf tag, byteOf r.payload.length] ++ r.payload)

/-- END_OF_TRANSMISSION: a request that expects a reply is AWAITING; a MARK ends, uncounted and handed to no
block, the evaluation timer starts with E, interval k opens and every Taken item is cleared (R31, R60, R67). Where k has advanced since the MARK was
handed over, it is the advanced k that opens: the model's choice (assumption 38). -/
def Obligations.TransmissionEnds : Prop :=
  (∀ (s : State) (x : Exchange), s.resetAsserted = false → s.link.phase = .sending x → x.request.kind ≠ .mark →
    exec .endOfTransmission s = .next { s with link := { s.link with
      phase := .awaiting x, driverEnable := false, transmitted := [] } }) ∧
  ∀ (s : State) (x : Exchange), s.resetAsserted = false → s.link.phase = .sending x → x.request.kind = .mark →
    x.request.fate = .judge → s.configured = true → s.centre.unsettled = none →
    ∃ t, exec .endOfTransmission s = .next t ∧
      t = { s with link := t.link, sequencer := t.sequencer, stations := t.stations, composer := t.composer,
                   centre := t.centre } ∧
      t.link.phase = .idle ∧ t.link.driverEnable = false ∧ t.link.transmitted = [] ∧
      t.link.counters = s.link.counters ∧ t.link.capture = s.link.capture ∧ t.link.nonValid = s.link.nonValid ∧
      t.sequencer.evaluationTimer = some (s.par.evaluationOffset * 1000) ∧
      t.sequencer.interval = s.sequencer.interval ∧
      t.stations = s.stations.map (fun r => { r with taken := false })

/-- FRAME_START: on a decoded path a frame belongs to the exchange that awaits its reply and whose timeout has not
expired, and is late otherwise; on a path that is not decoded it is not seen (R30, R32, R37, R44). -/
def Obligations.FrameStartIsSeen : Prop :=
  ∀ (s : State) (p : Path), s.resetAsserted = false →
    (s.link.decodes p = false → exec (.frameStart p) s = .next s) ∧
    (s.link.decodes p = true → s.link.receiving.get p = none → ∃ a,
      exec (.frameStart p) s = .next { s with link := { s.link with receiving := s.link.receiving.set p (some a) } } ∧
      (a = .belongs ↔ ∃ x, s.link.phase = .awaiting x ∧ x.expired = false))

/-- FRAME_END of a frame that belongs to the exchange and is not VALID: the first one is its path's copy, BAD or
WRONG, and the exchange goes on (R34, R180). -/
def Obligations.FailedFrameIsTheCopy : Prop :=
  ∀ (s : State) (x : Exchange) (p : Path) (err : Bool) (bytes : List Byte) (o : ChoiceOrder),
    s.resetAsserted = false → s.link.phase = .awaiting x → x.decodes p = true → x.waitingCheck = false →
    x.expired = false → s.link.receiving.get p = some .belongs → x.copies.get p = .silent →
    let sound := err = false ∧ 7 ≤ bytes.length ∧
      crcOf (bytes.take (bytes.length - 2)) = natOf (bytes.drop (bytes.length - 2)) ∧
      byteAt bytes 4 ≤ 60 ∧ byteAt bytes 4 = bytes.length - 7
    let echoed := byteAt bytes 0 = x.request.address ∧ byteAt bytes 1 = x.request.kind.code ∧ byteAt bytes 2 = x.tag
    ¬ (sound ∧ echoed) → ∃ c, (c = .bad ↔ ¬ sound) ∧ (c = .wrong ↔ sound) ∧
      exec (.frameEnd p err bytes o) s = .next { s with link := { s.link with
        receiving := s.link.receiving.set p none, phase := .awaiting { x with copies := x.copies.set p c } } }

/-- FRAME_END of a late frame in IDLE: a stray that no exchange takes, a link exception written to the capture
record unless it is frozen, and a LINK_EXCEPTION event that freezes it while the kind is unmasked (R37, R48, R50 to
R52). -/
def Obligations.LateFrameIsAStray : Prop :=
  ∀ (s : State) (x : ExchangeId) (p : Path) (err : Bool) (bytes : List Byte) (o : ChoiceOrder),
    s.resetAsserted = false → s.link.phase = .idle → s.link.decodes p = true →
    s.link.receiving.get p = some .late → s.link.lastExchange = some x → s.alerts.Wf →
    ∃ t, exec (.frameEnd p err bytes o) s = .next t ∧ t = { s with link := t.link, alerts := t.alerts } ∧
      t.link = { s.link with
        receiving := s.link.receiving.set p none,
        counters := if s.link.counters.exchanges < 65535 then
            { s.link.counters with strays := min 65535 (s.link.counters.strays + 1) } else s.link.counters,
        capture := if s.link.frozen then s.link.capture else some
          { outcome := .late, exchange := some x,
            results := PerPath.set { one := .absent, two := .absent } p (classify x err bytes).result },
        frozen := s.link.frozen || s.alerts.unmasked .linkException } ∧
      linkExceptionKey ∈ t.alerts.latched ∧ t.alerts.present.contains linkExceptionKey = false ∧
      (∀ k ∈ s.alerts.latched, k ∈ t.alerts.latched)

/-- FRAME_END of a VALID frame on the receive path, with no frame arriving on the check path, ends a centre exchange
of the built-in cycle: the reply is handed to Centre Exchange, the exchange is counted without an error, and the
idle wait starts (R33, R35, R48, R64). -/
def Obligations.GoodReplyEndsTheExchange : Prop :=
  ∀ (s : State) (x : Exchange) (bytes : List Byte) (o : ChoiceOrder),
    s.resetAsserted = false → s.mode = .unconfigured → s.link.phase = .awaiting x → x.request.kind = .cxe →
    x.waitingCheck = false → (x.copies.get x.receive).isValid = false →
    s.link.receiving.get x.receive = some .belongs → s.link.receiving.get (otherPath x.receive) = none →
    s.centre.unsettled = none → classify x.ident false bytes = .valid →
    ∃ t, exec (.frameEnd x.receive false bytes o) s = .next t ∧
      t = { s with link := t.link, alerts := t.alerts, centre := t.centre, sequencer := t.sequencer } ∧
      t.centre = { s.centre with unsettled := some (.received ((bytes.drop 5).take (bytes.length - 7))) } ∧
      t.sequencer = { s.sequencer with idleWait := some 50 } ∧
      t.link.phase = .idle ∧ t.link.held = s.link.held ∧ t.link.receiving.get x.receive = none ∧
      t.link.capture = s.link.capture ∧
      (s.link.counters.exchanges < 65535 →
        t.link.counters.exchanges = s.link.counters.exchanges + 1 ∧
        t.link.counters.errors = s.link.counters.errors ∧ t.link.counters.strays = s.link.counters.strays)

/-- REPLY_TIMEOUT with both paths silent and no frame arriving ends a centre exchange of the built-in cycle: the
outcome is TIMEOUT, GUARD follows with Late Guard enabled and IDLE without, the exchange and the error are counted,
the capture record is written unless frozen, and Centre Exchange is handed a failure (R33, R35, R38, R48, R50,
R51, R64). The expiry is the command itself (assumption 1). -/
def Obligations.SilentTimeoutEndsTheExchange : Prop :=
  ∀ (s : State) (x : Exchange) (o : ChoiceOrder),
    s.resetAsserted = false → s.mode = .unconfigured → s.link.phase = .awaiting x → x.request.kind = .cxe →
    x.expired = false → x.copies = { one := .silent, two := .silent } →
    s.link.receiving = { one := none, two := none } → s.centre.unsettled = none → s.alerts.Wf →
    ∃ t, exec (.replyTimeout o) s = .next t ∧
      t = { s with link := t.link, alerts := t.alerts, centre := t.centre, sequencer := t.sequencer } ∧
      t.centre = { s.centre with unsettled := some .failed } ∧
      t.sequencer = { s.sequencer with idleWait := some 50 } ∧
      t.link.phase = (if s.par.lateGuard then .guarding s.par.guardGap s.par.guardGap else .idle) ∧
      (s.link.counters.exchanges < 65535 →
        t.link.counters.exchanges = s.link.counters.exchanges + 1 ∧
        t.link.counters.errors = s.link.counters.errors + 1 ∧
        t.link.counters.pathErrors = s.link.counters.pathErrors) ∧
      (s.link.counters.exchanges = 65535 → t.link.counters = s.link.counters) ∧
      t.link.capture = (if s.link.frozen then s.link.capture else some
        { outcome := .timeout,
          exchange := some { kind := .cxe, address := x.request.address, tag := x.tag, slot := x.request.slot },
          results := { one := if x.decodes .one then .silent else .absent,
                       two := if x.decodes .two then .silent else .absent } }) ∧
      linkExceptionKey ∈ t.alerts.latched

/-- The outcome of an exchange and the copy taken, by the two copies; an outcome without a copy hands none on, and
a RESCUED outcome is handed on exactly as a GOOD one (R35). -/
def Obligations.OutcomeOfTheCopies : Prop :=
  (∀ x : Exchange,
    let receive := x.result x.receive
    let check := x.result (otherPath x.receive)
    (x.mode = .single → check = .absent) ∧
    (receive = .valid → x.outcome = .good ∧ x.taken = (x.copies.get x.receive).reply) ∧
    (receive ≠ .valid → receive ≠ .absent → check = .valid →
      x.outcome = .rescued ∧ x.taken = (x.copies.get (otherPath x.receive)).reply) ∧
    (receive = .silent → check = .silent ∨ check = .absent → x.outcome = .timeout ∧ x.taken = none) ∧
    (receive = .bad ∨ receive = .wrong → check ≠ .valid → x.outcome = .error ∧ x.taken = none) ∧
    (receive = .silent → check = .bad ∨ check = .wrong → x.outcome = .error ∧ x.taken = none) ∧
    (receive = .valid ∨ check = .valid → ∃ r, x.taken = some r ∧
      (x.copies.get x.receive = .valid r ∨ x.copies.get (otherPath x.receive) = .valid r))) ∧
  ∀ (s : State) (x y : Exchange), x.request = y.request → x.taken = y.taken → s.handOutcome x = s.handOutcome y

/-! ## Paths -/

/-- PATH FORCE (R45): accepted in every segment mode and both path modes, whatever the receive path; another
number is refused; and a path forced while it fails is left at its first rescued exchange. -/
def Obligations.PathForceMovesTheReceivePath : Prop :=
  (∀ (s : State) (n : Nat) (p : Path), n = pathNumber p →
    (s.carryOut (.pathForce n)).2 = accepted ∧
    (s.carryOut (.pathForce n)).1 = { s with
      link := { s.link with receivePath := p, cpd := false, checkRun := 0, nonValid := { one := 0, two := 0 } },
      alerts := if s.link.cpd then s.alerts.fall disturbedKey else s.alerts }) ∧
  (∀ (s : State) (n : Nat), n ≠ 1 → n ≠ 2 → s.carryOut (.pathForce n) = (s, refused .badLocation)) ∧
  ∀ (s : State) (p : Path) (x : Exchange), s.link.pathMode = .dual → x.mode = .dual → x.receive = p →
    (x.copies.get p).isValid = false → (x.copies.get (otherPath p)).isValid = true →
    (State.settlePaths x (s.carryOut (.pathForce (pathNumber p))).1).link.receivePath = otherPath p

/-- The path state at the end of an exchange in DUAL mode (R40 to R43): the counts and PATH_DOWN of both paths, the
check run, CPD, and the switch of the receive path. Where a PATH FORCE has overtaken the exchange, so that its receive
path is not the one in force, this is the model's reading (assumption 10). -/
def Obligations.PathStateSettles : Prop :=
  ∀ (s : State) (x : Exchange), x.mode = .dual → s.link.pathMode = .dual → s.link.checkRun ≤ 16 →
    (∀ p, s.link.nonValid.get p ≤ 16) →
    let t := s.settlePaths x
    let ok := fun p => (x.copies.get p).isValid
    let check := otherPath x.receive
    let run := if ok check then min 16 (s.link.checkRun + 1) else 0
    let cpd := if ok x.receive && !ok check then true else if run = 16 then false else s.link.cpd
    t = { s with link := t.link, alerts := t.alerts } ∧
    (∀ p, t.link.nonValid.get p = if ok p then 0 else min 16 (s.link.nonValid.get p + 1)) ∧
    (∀ p, t.link.down.get p = if ok p then false else s.link.down.get p || decide (15 ≤ s.link.nonValid.get p)) ∧
    let rescue := !ok x.receive && ok check && !cpd
    let forced := t.link.down.get x.receive && !t.link.down.get check
    t.link.receivePath = (if rescue || forced then check else s.link.receivePath) ∧
    t.link.cpd = (rescue || forced || cpd) ∧
    t.link.checkRun = (if rescue || forced then 0 else run) ∧
    t.link.counters = s.link.counters ∧ t.link.phase = s.link.phase ∧ t.link.held = s.link.held

/-- A reply frame laid out as R180 gives it, with the request's echoes, is VALID and hands on its status byte and
payload; with another echo it is WRONG, and with a coding error BAD (R34, R180). -/
def Obligations.ReplyFramesAreRead : Prop :=
  ∀ (x : ExchangeId) (address kind tag status : Byte) (payload : List Byte), payload.length ≤ 60 →
    let body := [address, kind, tag, status, byteOf payload.length] ++ payload
    let frame := body ++ twoBytes (crcOf body)
    let echoed := address.toNat = x.address ∧ kind.toNat = x.kind.code ∧ tag.toNat = x.tag
    (echoed → classify x false frame = .valid ∧ replyOf frame = { status := status, payload := payload }) ∧
    (¬ echoed → classify x false frame = .wrong) ∧ classify x true frame = .bad

/-! ## The poll cycle and the interval clock -/

/-- BUILT_IN_IDLE_WAIT_EXPIRY: a CXE request to the strapped trunk address, without a slot index, is built from the
state and handed over with the order credit (R64, R160, R161, R183). The expiry is the command itself
(assumption 1). -/
def Obligations.IdleWaitSendsACentreRequest : Prop :=
  ∀ s : State, s.resetAsserted = false → s.sequencer.idleWait.isSome = true → s.centre.unsettled = none →
    ∃ t r, exec .builtInIdleWaitExpiry s = .next t ∧
      t = { s with link := t.link, sequencer := t.sequencer, centre := t.centre } ∧
      t.link = { s.link with held := some r } ∧
      t.sequencer = { s.sequencer with idleWait := none, building := none } ∧
      r.kind = .cxe ∧ r.address = s.straps.trunkAddress ∧ r.slot = none ∧
      (∃ rest, r.payload = byteOf (min 4 (48 - s.centre.queue.length)) :: rest) ∧
      (∃ c, t.centre = { s.centre with carried := some c } ∧ c.credit = min 4 (48 - s.centre.queue.length))

/-- INTERVAL_TIMER_EXPIRY: the timer is reloaded with L, an interval still open closes, k advances modulo 256 and
MARK is pending (R59). The expiry is the command itself (assumption 1). -/
def Obligations.IntervalTimerAdvancesTheInterval : Prop :=
  (∀ (s : State) (o : CountOrder), s.resetAsserted = false → s.sequencer.intervalTimer.isSome = true →
    s.sequencer.evaluationTimer = none →
    exec (.intervalTimerExpiry o) s = .next { s with sequencer := { s.sequencer with
      intervalTimer := some (s.par.intervalLength * 1000), interval := (s.sequencer.interval + 1) % 256,
      markPending := true } }) ∧
  ∀ (s : State) (o : CountOrder), s.resetAsserted = false → s.sequencer.intervalTimer.isSome = true →
    s.sequencer.evaluationTimer.isSome = true →
    ∃ t u, exec (.evaluationTimerExpiry o) s = .next u ∧ exec (.intervalTimerExpiry o) s = .next t ∧
      t.stations = u.stations ∧ t.alerts = u.alerts ∧ t.centre = u.centre ∧ t.modeControl = u.modeControl ∧
      t.evaluationsAsked = u.evaluationsAsked ∧ t.composer = u.composer ∧
      t.sequencer = { s.sequencer with
        intervalTimer := some (s.par.intervalLength * 1000), evaluationTimer := none,
        interval := (s.sequencer.interval + 1) % 256, markPending := true }

/-- EVALUATION_TIMER_EXPIRY closes the interval: the counts of the stations not taken, the occupancy histories,
the closed summaries, the rises of STATION_LOST, a new summary round; in STARTUP and ACTIVE a band evaluation is asked
for, and in STARTUP the close is counted now, or is owed its count until the evaluation and so many visits have been
taken (R26, R61, R78, R80, R82, R162). The expiry is the command itself (assumption 1), the order of the count is its
operand (assumption 6), and the evaluations asked for are a count (assumption 24). -/
def Obligations.EvaluationTimerClosesTheInterval : Prop :=
  ∀ (s : State) (o : CountOrder), s.resetAsserted = false → s.sequencer.evaluationTimer.isSome = true →
    s.countOwed = none →
    ∃ t, exec (.evaluationTimerExpiry o) s = .next t ∧
      t = { s with sequencer := t.sequencer, stations := t.stations, alerts := t.alerts, centre := t.centre,
                   modeControl := t.modeControl, composer := t.composer, evaluationsAsked := t.evaluationsAsked,
                   countOwed := t.countOwed } ∧
      t.sequencer = { s.sequencer with evaluationTimer := none } ∧
      (∃ n, t.centre = { s.centre with
        round := some { serial := s.centre.rounds, interval := s.sequencer.interval, cursor := 0 }, rounds := n }) ∧
      (∀ n < s.stationCount, n < s.stations.length →
        let r := s.stationRec n
        let r' := t.stationRec n
        r'.taken = r.taken ∧ r'.poll = r.poll ∧ r'.smoothed = r.smoothed ∧ r'.occupancy = r.occupancy ∧
        r'.stale = (if r.taken then r.stale else min 255 (r.stale + 1)) ∧
        r'.missed = (if r.taken then r.missed else min 255 (r.missed + 1)) ∧
        (∀ l ∈ (s.tables.station n).laneList, l < r.lanes.length →
          (r'.lane l).history =
            ((if r.taken then some (r.lane l).occupancy else none) :: (r.lane l).history).take 2 ∧
          (r'.lane l).context = (r.lane l).context) ∧
        ∃ c, r'.summary = some c ∧ c.station = n ∧ c.interval = s.sequencer.interval ∧ c.taken = r.taken ∧
          c.poll = r.poll ∧ c.speed = r.speed ∧ c.occupancy = r.occupancy ∧ c.flow = r.flow ∧ c.usable = r.usable ∧
          c.controlling = (if r.seeded then some (r.smoothed / 16) else none) ∧ c.stale = r'.stale ∧
          c.missed = r'.missed ∧ c.valid = (r.seeded && decide (r'.stale < (s.tables.station n).hold))) ∧
      (s.tables.Wf → s.alerts.Wf → ∀ k,
        let lost := ∃ n < s.stationCount, k = alertKey .stationLost n ∧
          (s.stationRec n).missed < (s.tables.station n).hold ∧ (s.tables.station n).hold ≤ (t.stationRec n).missed
        (k ∈ t.alerts.present ↔ k ∈ s.alerts.present ∨ lost) ∧ (k ∈ t.alerts.latched ↔ k ∈ s.alerts.latched ∨ lost)) ∧
      (s.mode = .standby → t.evaluationsAsked = s.evaluationsAsked ∧ t.modeControl = s.modeControl ∧
        t.composer = s.composer ∧ t.countOwed = none) ∧
      (s.mode = .active → t.evaluationsAsked = s.evaluationsAsked + 1 ∧ t.modeControl = s.modeControl ∧
        t.composer = s.composer ∧ t.countOwed = none) ∧
      (s.mode = .startup → t.evaluationsAsked = s.evaluationsAsked + 1 ∧
        (o = .countFirst → t.countOwed = none ∧
          t.modeControl.startupCount = s.modeControl.startupCount + 1 ∧
          t.mode = (if s.par.startupEvaluations ≤ s.modeControl.startupCount + 1 then .active else .startup)) ∧
        ∀ visits, o = .evaluationFirst visits →
          t.countOwed = some visits ∧ t.modeControl = s.modeControl ∧ t.composer = s.composer)

/-- A walk never skips forever: with a CENTRE or a COMMAND slot in the Cycle Table it reaches a request, and the
cycle position stays a position of the table (R15, R54, R57, R58). -/
def Obligations.WalkReachesARequest : Prop :=
  ∀ (s : State), s.sequencer.position < s.tables.cycle.length →
    (∃ i < s.tables.cycle.length, s.tables.cycle[i]? = some (some .centre) ∨ s.tables.cycle[i]? = some (some .command)) →
    (s.walk.link.held.isSome = true ∨ s.walk.sequencer.building.isSome = true) ∧
      s.walk.sequencer.position < s.tables.cycle.length

/-! ## Measurement -/

/-- The values of a lane and of a station at a taking (R71 to R74). -/
def Obligations.LaneAndStationArithmetic : Prop :=
  (∀ (par : Params) (d : StationDesc) (v : LaneValues) (r : LaneRec), r.run = none →
    (takeLane par d v r).values = some v ∧ (takeLane par d v r).test = false ∧
    (takeLane par d v r).count = v.nL ∧
    (takeLane par d v r).occupancy = min 1000 (v.oms / par.intervalLength) ∧
    (1 ≤ v.p → 1 ≤ v.tsum → (takeLane par d v r).speed = some (min 250 (360 * d.spacing * v.p / v.tsum))) ∧
    (v.p = 0 ∨ v.tsum = 0 → (takeLane par d v r).speed = none) ∧
    (d.spacing ≤ 1000 → v.p ≤ 255 → 360 * d.spacing * v.p ≤ 91800000)) ∧
  (∀ (par : Params) (d : StationDesc) (v : LaneValues) (r : LaneRec) (run : InjectionRun), r.run = some run →
    takeLane par d v r = { takeLane par d run.values { r with run := none } with test := true, run := some run }) ∧
  ∀ (par : Params) (d : StationDesc) (r : StationRec),
    let usable := ((r.laneRecs d).map Prod.snd).filter
      (fun l => decide (l.health = .ok) && !l.context.excluded && !l.test)
    let matched := (usable.map (fun l => l.used.p)).sum
    let transit := (usable.map (fun l => l.used.tsum)).sum
    let r' := r.reduce par d
    (∀ l ∈ usable, l.occupancy ≤ r'.occupancy) ∧ (r'.occupancy = 0 ∨ ∃ l ∈ usable, l.occupancy = r'.occupancy) ∧
    r'.flow = (usable.map (fun l => l.used.nL)).sum * 3600 / par.intervalLength ∧ r'.usable = usable.length ∧
    (1 ≤ matched → 1 ≤ transit → r'.speed = some (min 250 (360 * d.spacing * matched / transit))) ∧
    (matched = 0 → par.stoppedOccupancy ≤ r'.occupancy → r'.speed = some 0) ∧
    (matched = 0 → r'.occupancy < par.stoppedOccupancy → r'.speed = none) ∧
    (1 ≤ matched → transit = 0 → r'.speed = none)

/-- The smoothed speed at a taking (R75), and how it moves toward a steady input (R76). -/
def Obligations.SmoothingMovesTowardTheInput : Prop :=
  (∀ (par : Params) (d : StationDesc) (r : StationRec),
    let v := (r.reduce par d).speed
    (v = none → (r.reduce par d).smoothed = r.smoothed ∧ (r.reduce par d).seeded = r.seeded) ∧
    (∀ n, v = some n → (r.reduce par d).seeded = true ∧
      (r.seeded = false → (r.reduce par d).smoothed = 16 * n) ∧
      (r.seeded = true → ((r.reduce par d).smoothed : Int) =
        max 0 ((r.smoothed : Int) + (((16 * n : Nat) - r.smoothed : Int) * d.weight).tdiv 8)))) ∧
  (∀ r : StationRec, r.controlling = r.smoothed / 16) ∧
  ∀ s v w : Nat, s ≤ 4000 → v ≤ 250 → 1 ≤ w → w ≤ 8 →
    smooth s v w ≤ 4000 ∧
    (s ≤ 16 * v → s ≤ smooth s v w ∧ smooth s v w ≤ 16 * v) ∧
    (16 * v ≤ s → 16 * v ≤ smooth s v w ∧ smooth s v w ≤ s) ∧
    (smooth s v w = s ↔ max (16 * v - s) (s - 16 * v) * w < 8) ∧
    (w = 8 → smooth s v w = 16 * v) ∧
    (smooth s v w = s → max (16 * v - s) (s - 16 * v) ≤ 7 / w) ∧
    (s ≤ 16 * v → smooth s v w / 16 ≤ v) ∧ (16 * v ≤ s → v ≤ smooth s v w / 16) ∧
    (smooth s v w = s → v ≤ s / 16 + 1)

/-- A station is valid for control while seeded and with its stale count below its hold: it becomes invalid at the
close, or the taking without a usable lane, that brings the count there, and valid again at the next taking with
a usable lane; an invalid window station is as absent from the window (R77, R79). -/
def Obligations.ValidForControl : Prop :=
  (∀ (d : StationDesc) (r : StationRec), r.valid d = true ↔ r.seeded = true ∧ r.stale < d.hold) ∧
  (∀ (d : StationDesc) (r : StationRec), d.hold ≤ 10 → r.taken = false → r.valid d = true →
    (r.missInterval.valid d = false ↔ r.stale + 1 = d.hold)) ∧
  (∀ (par : Params) (d : StationDesc) (r : StationRec), 1 ≤ d.hold → d.hold ≤ 10 → r.seeded = true →
    ((r.reduce par d).usable = 0 → r.valid d = true → ((r.reduce par d).valid d = false ↔ r.stale + 1 = d.hold)) ∧
    (1 ≤ (r.reduce par d).usable → (r.reduce par d).valid d = true ∧ (r.reduce par d).stale = 0) ∧
    (r.reduce par d).missed = 0) ∧
  ∀ (s : State) (g n : Nat), n ∈ s.validWindow g ↔
    n ∈ (s.tables.gantry g).window ∧ (s.stationRec n).valid (s.tables.station n) = true

/-- The health of a lane after its test: R91 from OK and SUSPECT, R92 from FAULT. -/
def Obligations.LaneHealthSettles : Prop :=
  ∀ (par : Params) (v : LaneValues) (speed : Option Nat) (occupancy count : Nat) (others : List LaneReading)
    (c : HealthContext),
    let c' := testLane par v speed occupancy count others c
    let stuck := 950 ≤ occupancy ∧ count ≤ 1 ∧ ∃ x ∈ others, x.test = false ∧ x.occupancy < 150
    let silent := count = 0 ∧ occupancy = 0 ∧
      ∃ x ∈ others, x.test = false ∧ x.excluded = false ∧ x.health = .ok ∧ 10 ≤ x.count
    let mismatch := max 2 (v.nL / 8) < max (v.nL - v.nG) (v.nG - v.nL)
    let strange := v.nL < v.p ∨ ∃ n, speed = some n ∧ (200 < n ∨ (1 ≤ v.p ∧ 600 ≤ occupancy ∧ 100 ≤ n))
    (c'.plausibility = c.plausibility ↔ ¬ (mismatch ∨ strange) ∨ c.plausibility = min 127 (c.plausibility + 1)) ∧
    (mismatch ∨ strange → c'.plausibility = min 127 (c.plausibility + 1)) ∧
    c'.excluded = c.excluded ∧
    (c.health ≠ .fault →
      ∃ a b, (stuck → a = c.stuck + 1) ∧ (¬ stuck → a = 0) ∧ (silent → b = c.silent + 1) ∧ (¬ silent → b = 0) ∧
        (par.faultPersistence ≤ a ∨ par.faultPersistence ≤ b →
          c'.health = .fault ∧ c'.stuck = 0 ∧ c'.silent = 0 ∧ c'.normalRun = 0) ∧
        (a < par.faultPersistence → b < par.faultPersistence → c'.stuck = a ∧ c'.silent = b ∧
          c'.health = if c.health = .ok ∧ par.plausibilityThreshold ≤ c'.plausibility then .suspect else c.health)) ∧
    (c.health = .fault →
      c'.stuck = c.stuck ∧ c'.silent = c.silent ∧
      (stuck ∨ silent → c'.normalRun = 0 ∧ c'.health = .fault) ∧
      (¬ stuck → ¬ silent →
        (c.normalRun + 1 < 3 → c'.normalRun = c.normalRun + 1 ∧ c'.health = .fault) ∧
        (3 ≤ c.normalRun + 1 → c'.normalRun = 0 ∧
          c'.health = if par.plausibilityThreshold ≤ c'.plausibility then .suspect else .ok)))

/-- WAITING_RESULT_OFFER: the waiting results join the Report Queue oldest first, with the next report numbers,
until one is not admitted (R97, R169). -/
def Obligations.WaitingResultsAreOffered : Prop :=
  ∀ s : State, s.resetAsserted = false → s.centre.nextReport < 65536 →
    let k := min s.waiting.length (48 - s.centre.queue.length)
    ∃ t, exec .waitingResultOffer s = .next t ∧ t = { s with centre := t.centre, waiting := s.waiting.drop k } ∧
      t.centre = { s.centre with queue := t.centre.queue, nextReport := (s.centre.nextReport + k) % 65536 } ∧
      t.centre.queue = s.centre.queue ++ ((s.waiting.take k).mapIdx (fun i r =>
        { number := (s.centre.nextReport + i) % 65536, body := .injectionResult r, offset := 0 }))

/-! ## Speed Control -/

/-- The band after a supported evaluation: the highest band whose onset holds when it is above c, else one band
down when c's release holds, else c (R103). -/
def Obligations.BandSettles : Prop :=
  ∀ (t : Tables) (vc oc c : Nat),
    let onset := fun b => ∃ d, t.band b = some d ∧ (vc < d.von ∨ d.oon ≤ oc)
    let release := fun b => ∃ d, t.band b = some d ∧ d.voff ≤ vc ∧ oc < d.ooff
    ∃ u, (∀ b, 1 ≤ b → b ≤ t.bands.length → onset b → b ≤ u) ∧ (u = 0 ∨ (1 ≤ u ∧ u ≤ t.bands.length ∧ onset u)) ∧
      (c < u → t.settleBand vc oc c = u) ∧
      (u ≤ c → 0 < c → release c → t.settleBand vc oc c = c - 1) ∧
      (u ≤ c → ¬ (0 < c ∧ release c) → t.settleBand vc oc c = c)

/-- BAND_EVALUATION: every gantry of the segment is evaluated from its own window, and a pass is requested from the
most downstream gantry; in UNCONFIGURED and STANDBY the event is dropped (R100 to R102). The evaluations asked for
are a count (assumption 24), and what drops one is the mode when it is taken (assumption 35). A close that owes its
count and waits for no visit is counted after the evaluation (R26). -/
def Obligations.BandsAreEvaluated : Prop :=
  ∀ (s : State) (n : Nat), s.resetAsserted = false → s.evaluationsAsked = n + 1 → s.countOwed = none →
    (s.signing = false → exec .bandEvaluation s = .next { s with evaluationsAsked := n }) ∧
    (s.signing = true → s.composer.pass = none → ∃ t, exec .bandEvaluation s = .next t ∧
      t = { s with evaluationsAsked := n, control := t.control, alerts := t.alerts, composer := t.composer } ∧
      t.composer = { s.composer with pass := some (s.gantryCount - 1) } ∧
      ∀ g < s.control.length,
        let c := s.gantryControl g
        let c' := t.gantryControl g
        let d := s.tables.gantry g
        c'.demanded = c.demanded ∧ c'.dwell = c.dwell ∧ c'.pendingIncrease = c.pendingIncrease ∧
        (s.gantryCount ≤ g → c' = c) ∧
        (g < s.gantryCount → s.validWindow g = [] →
          (d.unsupportedHold ≤ c.unsupported → c' = c) ∧
          (c.unsupported + 1 = d.unsupportedHold → c'.unsupported = d.unsupportedHold ∧ c'.band = d.fallback) ∧
          (c.unsupported + 1 < d.unsupportedHold → c'.unsupported = c.unsupported + 1 ∧ c'.band = c.band)) ∧
        (g < s.gantryCount → s.validWindow g ≠ [] → c'.unsupported = 0 ∧
          ∃ vc oc, c'.band = s.tables.settleBand vc oc c.band ∧
            (∀ m ∈ s.validWindow g, vc ≤ (s.stationRec m).controlling ∧ (s.stationRec m).occupancy ≤ oc) ∧
            (∃ m ∈ s.validWindow g, vc = (s.stationRec m).controlling) ∧
            ∃ m ∈ s.validWindow g, oc = (s.stationRec m).occupancy)) ∧
    (s.signing = true → ∃ u, exec .bandEvaluation s = .next u ∧
      (∀ k, exec .bandEvaluation { s with countOwed := some (k + 1) } = .next { u with countOwed := some (k + 1) }) ∧
      ∃ t, exec .bandEvaluation { s with countOwed := some 0 } = .next t ∧
        t = { u with modeControl := t.modeControl, composer := t.composer } ∧
        (s.mode = .active → t = u) ∧
        (s.mode = .startup → t.modeControl.startupCount = s.modeControl.startupCount + 1 ∧
          (s.modeControl.startupCount + 1 < s.par.startupEvaluations → t.mode = .startup ∧ t.composer = u.composer) ∧
          (s.par.startupEvaluations ≤ s.modeControl.startupCount + 1 → t.mode = .active ∧ ∃ n,
            t.composer = { u.composer with pass := some n } ∧ s.gantryCount - 1 ≤ n)))

/-- The governor is the nearest downstream gantry in neither FAILED nor LOCAL with no cascade break from the gantry
up to the one before it; the cascade bound is its demanded limit plus Step (R114). -/
def Obligations.GovernorIsTheNearest : Prop :=
  (∀ (s : State) (g h : Nat), s.governor g = some h ↔
    g < h ∧ h < s.gantryCount ∧ (s.deliveryRec h).state ≠ .failed ∧ (s.deliveryRec h).state ≠ .inLocal ∧
      (∀ j, g ≤ j → j < h → (s.tables.gantry j).cascadeBreak = false) ∧
      ∀ j, g < j → j < h → (s.deliveryRec j).state = .failed ∨ (s.deliveryRec j).state = .inLocal) ∧
  (∀ (s : State) (g b : Nat), s.cascadeBound g = some b ↔
    ∃ h l, s.governor g = some h ∧ (s.gantryControl h).demanded = some l ∧ b = s.par.value l + s.par.step)

/-- The dwell decision (R116) and DWELL_TIMER_EXPIRY (R117): the expiry of a timer at 0 requests a pass from the
gantry when its pending-increase flag is set (assumption 29). R117 has no expiry in UNCONFIGURED and STANDBY; that the
command then does nothing is the model's choice (assumption 1). -/
def Obligations.DwellHoldsRises : Prop :=
  (∀ (p : Params) (dwell : Nat) (candidate : Limit) (c : GantryControl),
    let c' := c.settleDwell p dwell candidate
    (c.demanded = none → c'.demanded = some candidate ∧ c'.pendingIncrease = false ∧ c'.dwell = dwell * 1000) ∧
    (∀ l, c.demanded = some l → p.value l < p.value candidate → 0 < c.dwell →
      c' = { c with pendingIncrease := true }) ∧
    (∀ l, c.demanded = some l → ¬ (p.value l < p.value candidate ∧ 0 < c.dwell) →
      c'.demanded = some candidate ∧ c'.pendingIncrease = false ∧
      c'.dwell = if candidate = l then c.dwell else dwell * 1000) ∧
    c'.band = c.band ∧ c'.unsupported = c.unsupported ∧ c'.expiryDue = c.expiryDue) ∧
  (∀ (s : State) (g : Nat), s.resetAsserted = false → s.signing = true → g < s.gantryCount → g < s.control.length →
    (s.gantryControl g).dwell = 0 → ∃ t, exec (.dwellTimerExpiry g) s = .next t ∧
      t = { s with control := t.control, composer := t.composer } ∧
      t.control = s.control.set g { s.gantryControl g with expiryDue := false } ∧
      ((s.gantryControl g).pendingIncrease = false → t.composer = s.composer) ∧
      ((s.gantryControl g).pendingIncrease = true → ∃ n, t.composer = { s.composer with pass := some n } ∧
        g ≤ n ∧ (n = g ∨ s.composer.pass = some n))) ∧
  ∀ (s : State) (g : Nat), s.signing = false → exec (.dwellTimerExpiry g) s = .next s

/-- The cap of an accepted LIMIT SET (R108): a member of the Display Set is held as it is, another value as the
largest member below it, a value below the smallest member as that member with ACCEPTED_CLAMPED; the detail carries
the cap held. The entry joins the register's end, and in STARTUP and ACTIVE a pass is requested from the order's last
gantry (R107, R109). -/
def Obligations.LimitSetSettlesTheCap : Prop :=
  ∀ (s : State) (id f l requested : Nat) (legend : Option Legend), s.mode ≠ .unconfigured → id ≠ 0 →
    (∀ o ∈ s.limitOrders, o.id ≠ id) → (∀ c ∈ s.closures.register, c.id ≠ id) → s.limitOrders.length < 8 →
    f ≤ l → l < s.gantryCount → s.par.displaySet ≠ [] → s.par.displaySet.Pairwise (· < ·) →
    let t := (s.carryOut (.limitSet id f l requested legend)).1
    let answer := (s.carryOut (.limitSet id f l requested legend)).2
    ∃ cap,
      t = { s with limitOrders := t.limitOrders, composer := { s.composer with pass := t.composer.pass } } ∧
      t.limitOrders = s.limitOrders ++
        [{ id := id, firstGantry := f, lastGantry := l, cap := cap, legend := legend }] ∧
      (s.mode = .standby → t.composer.pass = s.composer.pass) ∧
      (s.mode = .startup ∨ s.mode = .active →
        ∃ n, t.composer.pass = some n ∧ l ≤ n ∧ (n = l ∨ s.composer.pass = some n)) ∧
      answer.detail = .cap cap ∧ cap ∈ s.par.displaySet ∧
      (requested ∈ s.par.displaySet → cap = requested) ∧
      ((∃ v ∈ s.par.displaySet, v ≤ requested) → cap ≤ requested ∧
        (∀ v ∈ s.par.displaySet, v ≤ requested → v ≤ cap) ∧ answer.verdict = .accepted) ∧
      ((∀ v ∈ s.par.displaySet, requested < v) → (∀ v ∈ s.par.displaySet, cap ≤ v) ∧ answer.verdict = .clamped) ∧
      (s.par.vtop ≤ requested → cap = s.par.vtop)

/-! ## Closures and the shoulder -/

/-- MERGE_HOLD_EXPIRY (R138): the front's shoulder state becomes CLOSED; the next OPEN gantry downstream in the
range becomes the front, as MERGE, or the order leaves the register; a pass is requested. The expiry is the
command itself (assumption 1). -/
def Obligations.MergeHoldExpiryMovesTheFront : Prop :=
  ∀ (s : State) (slot id f n : Nat) (o : ShoulderOrder), s.resetAsserted = false → s.signing = true →
    (s.closures.register.map Closure.slot).Nodup →
    { id := id, slot := slot, body := .shoulder o } ∈ s.closures.register →
    o.phase = .closing → o.front = some f → o.mergeHold = some n → o.lastGantry < s.closures.shoulders.length →
    f ≤ o.lastGantry → s.composer.pass = none →
    ((∀ g, f < g → g ≤ o.lastGantry → s.shoulder g ≠ .opened) → ∃ t, exec (.mergeHoldExpiry slot) s = .next t ∧
      t = { s with closures := t.closures, composer := { s.composer with pass := some o.lastGantry } } ∧
      t.closures = { s.closures with
        register := s.closures.register.filter (fun c => decide (c.slot ≠ slot)),
        shoulders := s.closures.shoulders.set f .closed }) ∧
    ∀ h, f < h → h ≤ o.lastGantry → s.shoulder h = .opened →
      (∀ g, f < g → g < h → s.shoulder g ≠ .opened) → ∃ t, exec (.mergeHoldExpiry slot) s = .next t ∧
      t = { s with closures := t.closures, composer := { s.composer with pass := some h } } ∧
      t.closures.shoulders = (s.closures.shoulders.set f .closed).set h .merge ∧
      t.closures.overlays = s.closures.overlays ∧
      ∃ o' : ShoulderOrder, t.closures.register = s.closures.register.map (fun c =>
          if c.slot = slot then { c with body := .shoulder o' } else c) ∧
        o' = { o with front := some h,
                      mergeHold := if (s.deliveryRec h).state = .failed ∨ (s.deliveryRec h).state = .inLocal
                        then some (s.par.mergeHold * 1000) else none }

/-! ## Aspects and the signs -/

/-- COMPOSITION_PASS_VISIT (R141). The closures sited at the gantry are settled (R125). The demanded limit comes from
the dwell decision on the candidate, the largest of the Display Set and NL within the least of the limits of R113 and
the cascade bound (R113, R115, R116). A running lane shows its overlay aspect, CLOSED or a merge, and the carriageway
limit without one; lane 0 shows the higher of its overlay and shoulder aspects, where a MERGE_OFFSIDE without an open
running lane is CLOSED (R130, R142; under an overlay merge the model's choice, assumption 37); no lane is BLANK. The
legend is the first of R143's six. The gantry is placed in the Sign Command Queue, or left out of it, by R144. The pass
moves to the next gantry upstream or ends, and a close that has waited for this visit is counted (R26; assumption 6). -/
def Obligations.VisitComposesTheGantry : Prop :=
  ∀ (s : State) (g : Nat), s.resetAsserted = false → s.composer.pass = some g → g < s.control.length →
    g < s.composer.delivery.length →
    ∃ t l sign, exec .compositionPassVisit s = .next t ∧
      t = { s with closures := t.closures, alerts := t.alerts, control := t.control, composer := t.composer,
                   modeControl := t.modeControl, countOwed := t.countOwed } ∧
      t.composer.rotation = s.composer.rotation ∧
      (∀ h, h ≠ g → t.gantryControl h = s.gantryControl h ∧ t.deliveryRec h = s.deliveryRec h) ∧
      (t.closures = { s.closures with register := t.closures.register } ∧ t.closures.ids = s.closures.ids ∧
        t.closures.shoulderOrders = s.closures.shoulderOrders ∧
        t.closures.roads = s.closures.roads.map (fun r => if r.site = g then s.settleRoad r else r)) ∧
      (∀ k, k.kind ≠ .closureUnprotected →
        (k ∈ t.alerts.present ↔ k ∈ s.alerts.present) ∧ (k ∈ t.alerts.latched ↔ k ∈ s.alerts.latched)) ∧
      let d := s.tables.gantry g
      let covering := s.limitOrders.filter (fun o => decide (o.firstGantry ≤ g ∧ g ≤ o.lastGantry))
      (∃ ceiling candidate,
        (let limits := (if s.mode = .startup then d.startupLimit else s.tables.bandLimit (s.gantryControl g).band) ::
            d.gmax :: (covering.map (fun o => Limit.kmh o.cap) ++ (t.closureCaps g).map Limit.kmh)
         (∀ m ∈ limits, ceiling ≤ s.par.value m) ∧ (∀ b ∈ s.cascadeBound g, ceiling ≤ b) ∧
         ((∃ m ∈ limits, ceiling = s.par.value m) ∨ s.cascadeBound g = some ceiling)) ∧
        (s.par.vtop + 10 ≤ ceiling → candidate = .nl) ∧
        (ceiling < s.par.vtop + 10 → s.par.displaySet ≠ [] → s.par.displaySet.Pairwise (· < ·) →
          ∃ v ∈ s.par.displaySet, candidate = .kmh v ∧
            ((∃ w ∈ s.par.displaySet, w ≤ ceiling) → v ≤ ceiling ∧ ∀ w ∈ s.par.displaySet, w ≤ ceiling → w ≤ v) ∧
            ((∀ w ∈ s.par.displaySet, ceiling < w) → ∀ w ∈ s.par.displaySet, v ≤ w)) ∧
        t.gantryControl g = (s.gantryControl g).settleDwell s.par d.dwell candidate ∧
        (t.gantryControl g).demanded = some l) ∧
      t.deliveryRec g = { s.deliveryRec g with demanded := some sign } ∧
      sign.aspects.length = d.signedLanes.length ∧ (∀ a ∈ sign.aspects, a ≠ .blank) ∧
      (let carriageway := match l with
          | .kmh v => Aspect.limit v
          | .nl => .nlEnd
       let shown := fun lane => onLane d sign.aspects lane
       let overlay := fun lane => t.overlayAspect g lane
       let target := ∃ lane, 1 ≤ lane ∧ lane ≤ d.lanes ∧ shown lane ≠ some .closed
       (∀ lane a, overlay lane = some a → a = .closed ∨ a = .mergeNearside ∨ a = .mergeOffside) ∧
       (∀ lane, 1 ≤ lane → lane ≤ d.lanes → shown lane = some ((overlay lane).getD carriageway)) ∧
       (d.shoulder = true →
         (s.shoulder g = .closed → shown 0 = some .closed) ∧
         (s.shoulder g = .merge → ¬ target → shown 0 = some .closed) ∧
         (s.shoulder g = .merge → target → shown 0 = some ((overlay 0).getD .mergeOffside)) ∧
         (s.shoulder g = .opened → shown 0 = some ((overlay 0).getD carriageway)))) ∧
      (let band := if s.mode = .startup then Legend.blank else s.tables.bandLegend (s.gantryControl g).band
       (t.incidentAsked g = true → sign.legend = .incidentAhead) ∧
       (t.incidentAsked g = false → band = .queueAhead → sign.legend = .queueAhead) ∧
       (t.incidentAsked g = false → band ≠ .queueAhead →
         (∀ before after o legend, covering = before ++ o :: after → o.legend = some legend →
           (∀ p ∈ before, p.legend ≠ none → o.cap < p.cap) → (∀ p ∈ after, p.legend ≠ none → o.cap ≤ p.cap) →
           sign.legend = legend) ∧
         ((∀ o ∈ covering, o.legend = none) →
           (band = .congestion → sign.legend = .congestion) ∧
           (band ≠ .congestion → s.shoulder g = .opened → sign.legend = .shoulderRunning) ∧
           (band ≠ .congestion → s.shoulder g ≠ .opened → sign.legend = .blank)))) ∧
      (let r := t.deliveryRec g
       let held := ∃ e ∈ s.composer.queue, e.gantry = g
       let wanted := r.state ≠ .failed ∧ r.state ≠ .inLocal ∧ (r.sent = none ∨ r.sent ≠ some sign)
       let due := r.state ≠ .inLocal ∧ ∃ n, r.sinceSet = some n ∧ s.par.refreshTime * 1000 ≤ n
       let cls := t.placementClass g
       (wanted → ¬ held → t.composer.queue = s.composer.queue ++ [{ gantry := g, cls := cls }]) ∧
       (wanted → held → t.composer.queue = s.composer.queue.map (fun e =>
         if e.gantry = g ∧ cls = .restrictive then { e with cls := .restrictive } else e)) ∧
       (¬ wanted → due → ¬ held → t.composer.queue = s.composer.queue ++ [{ gantry := g, cls := .ordinary }]) ∧
       (¬ wanted → (¬ due ∨ held) → t.composer.queue = s.composer.queue)) ∧
      let next := if g = 0 then none else some (g - 1)
      (s.countOwed = none ∨ s.evaluationsAsked ≠ 0 →
        t.composer.pass = next ∧ t.modeControl = s.modeControl ∧ t.countOwed = s.countOwed) ∧
      ∀ n, s.countOwed = some n → s.evaluationsAsked = 0 →
        (1 < n → 0 < g → t.composer.pass = next ∧ t.modeControl = s.modeControl ∧ t.countOwed = some (n - 1)) ∧
        (n ≤ 1 ∨ g = 0 → t.countOwed = none ∧
          (s.mode ≠ .startup → t.composer.pass = next ∧ t.modeControl = s.modeControl) ∧
          (s.mode = .startup → t.modeControl.startupCount = s.modeControl.startupCount + 1 ∧
            (s.modeControl.startupCount + 1 < s.par.startupEvaluations → t.mode = .startup ∧ t.composer.pass = next) ∧
            (s.par.startupEvaluations ≤ s.modeControl.startupCount + 1 → t.mode = .active ∧ ∃ m,
              t.composer.pass = some m ∧ s.gantryCount - 1 ≤ m)))

/-- The judgement of an SGS exchange whose reply holds a complete aspect list without LOCAL (R148, R149): the
displayed aspects, the sent legend and the driver status are taken, then lane by lane against the sent aspects; a
confirmed SET, or a failed attempt. -/
def Obligations.SignReplyIsJudged : Prop :=
  ∀ (s : State) (g : Nat) (status : DriverStatus) (shown : List Displayed) (mayPlace : Bool),
    g < s.composer.delivery.length →
    let d := s.tables.gantry g
    let old := s.deliveryRec g
    let t := s.judgeLanes g status shown mayPlace
    let new := t.deliveryRec g
    let sent := (old.sent.map Signing.aspects).getD []
    let fails := fun l => onLane d shown l ≠ (onLane d sent l).map Displayed.shows ∨ l ∈ status.lampFaults
    t = { s with composer := t.composer } ∧ (∀ h, h ≠ g → t.deliveryRec h = s.deliveryRec h) ∧
    new.confirmed = some shown ∧ (∀ x, old.sent = some x → new.confirmedLegend = some x.legend) ∧
    new.status = some status ∧ new.demanded = old.demanded ∧ new.sent = old.sent ∧
    (∀ l, l ∈ new.failedLanes ↔ l ∈ d.signedLanes ∧ fails l) ∧
    ((∀ l ∈ d.signedLanes, ¬ fails l) →
      new.state = .confirmed ∧ new.attempts = 0 ∧ t.composer.queue = s.composer.queue) ∧
    ((∃ l ∈ d.signedLanes, fails l) →
      (old.state = .failed → new.state = .failed ∧ new.attempts = old.attempts ∧ t.composer.queue = s.composer.queue) ∧
      (old.state = .awaiting → old.attempts + 1 < 3 → new.state = .awaiting ∧ new.attempts = old.attempts + 1 ∧
        t.composer.queue = if mayPlace && !s.inQueue g then s.composer.queue ++ [{ gantry := g, cls := .ordinary }]
          else s.composer.queue) ∧
      (old.state = .awaiting → 3 ≤ old.attempts + 1 → new.state = .failed ∧ new.attempts = 3 ∧
        t.composer.queue = s.composer.queue.filter (fun e => decide (e.gantry ≠ g))))

/-- REFRESH_TIME_REACHED (R152): in STARTUP and ACTIVE a gantry that is not LOCAL, has no entry and holds a demand is
placed as ordinary; in STANDBY nothing is placed; a record without a time reaches no refresh. The
command is the event, and brings the time to the refresh time where it has not counted there (assumption 1). -/
def Obligations.RefreshPlacesTheGantry : Prop :=
  ∀ (s : State) (g n : Nat), s.resetAsserted = false → s.configured = true → g < s.gantryCount →
    g < s.composer.delivery.length →
    ((s.deliveryRec g).sinceSet = none → exec (.refreshTimeReached g) s = .next s) ∧
    ((s.deliveryRec g).sinceSet = some n → ∃ t, exec (.refreshTimeReached g) s = .next t ∧
      t = { s with composer := { s.composer with delivery := t.composer.delivery, queue := t.composer.queue } } ∧
      t.composer.delivery = s.composer.delivery.set g
        { s.deliveryRec g with sinceSet := some (max n (s.par.refreshTime * 1000)) } ∧
      t.composer.queue =
        if s.signing = true ∧ (s.deliveryRec g).state ≠ .inLocal ∧ (∀ e ∈ s.composer.queue, e.gantry ≠ g) ∧
            (s.deliveryRec g).demanded ≠ none
        then s.composer.queue ++ [{ gantry := g, cls := .ordinary }] else s.composer.queue)

/-! ## The centre -/

/-- CENTRE_EXCHANGE_FAILED (R163, R165): nothing leaves the Notice List or the Report Queue, the cursor stands, the
failure count rises and may lose the link, the carried set and the credit go, and no order is taken. -/
def Obligations.FailedCentreExchangeSettles : Prop :=
  ∀ s : State, s.resetAsserted = false → s.centre.unsettled = some .failed → s.sequencer.building = none →
    s.sequencer.choiceOwed = false →
    let n := min 60 (s.centre.failures + 1)
    let lost := s.centre.link = .linked ∧ s.par.centreLossLimit ≤ n
    ∃ t, exec .centreExchangeFailed s = .next t ∧ t = { s with centre := t.centre, alerts := t.alerts } ∧
      t.centre = { s.centre with carried := none, unsettled := none, failures := n,
                                 link := if lost then .lost else s.centre.link } ∧
      (lost → t.alerts = s.alerts.rise centreLostKey) ∧ (¬ lost → t.alerts = s.alerts) ∧
      s.alerts.notices <+: t.alerts.notices

/-- CENTRE_EXCHANGE_RECEIVED without orders (R164, R165, R184): the link is LINKED with no failures; the carried
notices whose flags still stand leave the Notice List; the entries carried whole leave the Report Queue and the one
carried in part moves its offset; the cursor of the round still in progress moves; the carried set goes. -/
def Obligations.ReceivedCentreExchangeSettles : Prop :=
  ∀ (s : State) (c : Carried) (payload : List Byte), s.resetAsserted = false →
    s.centre.unsettled = some (.received payload) → s.centre.carried = some c → byteAt payload 0 = 0 →
    s.sequencer.building = none → s.sequencer.choiceOwed = false → s.waiting = [] → s.alerts.Wf →
    ∃ t, exec .centreExchangeReceived s = .next t ∧ t = { s with centre := t.centre, alerts := t.alerts } ∧
      t.centre.carried = none ∧ t.centre.unsettled = none ∧ t.centre.link = .linked ∧ t.centre.failures = 0 ∧
      t.centre.nextReport = s.centre.nextReport ∧
      (c.part = none → t.centre.queue = s.centre.queue.filter (fun r => decide (r.number ∉ c.entries))) ∧
      (∀ n o, c.part = some (n, o) → t.centre.queue =
        (s.centre.queue.filter (fun r => decide (r.number ∉ c.entries))).map
          (fun r => if r.number = n then { r with offset := o } else r)) ∧
      (s.centre.link = .linked → t.alerts = { s.alerts with notices := t.alerts.notices } ∧
        ∀ k, k ∈ t.alerts.notices ↔ k ∈ s.alerts.notices ∧
          ¬ ∃ n ∈ c.notices, n.key = k ∧ n.present = s.alerts.present.contains k ∧
            n.latched = s.alerts.latched.contains k) ∧
      (s.centre.link = .lost → centreLostKey ∉ t.alerts.present ∧ t.alerts.latched = s.alerts.latched) ∧
      (c.round = none → t.centre.round = s.centre.round) ∧
      (∀ r cursor, s.centre.round = some r → c.round = some (r.serial, cursor) →
        t.centre.round = if s.stationCount ≤ cursor then none else some { r with cursor := cursor }) ∧
      (∀ r k cursor, s.centre.round = some r → c.round = some (k, cursor) → k ≠ r.serial →
        t.centre.round = s.centre.round)

/-- Each order taken produces exactly one response, admitted at the tail of the Report Queue with the next report
number, the order's message number and the segment mode in force once it is carried out; only RESTART empties the
queue first (R29, R166, R168, R169). -/
def Obligations.EachOrderHasOneResponse : Prop :=
  ∀ (s : State) (m : OrderMessage), s.centre.queue.length < 48 →
    let t := s.takeOrder m
    ∃ kind r, t.centre.queue =
        (if m.kind = 4 ∧ m.body = [] then [] else s.centre.queue) ++
          [{ number := s.centre.nextReport, body := r, offset := 0 }] ∧
      t.centre.nextReport = (s.centre.nextReport + 1) % 65536 ∧
      (readOrder m = .refuse kind ∨ (∃ o, readOrder m = .order kind o) ∨
        (readOrder m = .badSubject ∧ kind = .alertAck)) ∧
      ((∃ x, r = .orderResponse x ∧ x.message = m.message ∧ x.kind = kind ∧ x.mode = t.mode) ∨
        ∃ x items, r = .queryResult x items ∧ x.message = m.message ∧ x.kind = .query ∧ x.verdict = .accepted ∧
          x.mode = t.mode)

/-- A CXE request fits: its payload is at most 60 bytes and opens with the credit and the number of its report
messages, both at most 4 (R30, R160, R161, R183, R184). -/
def Obligations.CentreRequestFits : Prop :=
  ∀ (s : State) (slot : Option Nat),
    let r := s.centreRequest s.fill slot
    let c := s.carriedBy s.fill
    r.payload.length ≤ 60 ∧ c.credit ≤ 4 ∧ s.fill.places ≤ 4 ∧
    (∃ rest, r.payload = byteOf c.credit :: byteOf (4 - s.fill.places) :: rest) ∧
    c.notices.length + c.entries.length + (if c.part.isSome then 1 else 0) ≤ 4 - s.fill.places ∧
    (∀ n ∈ c.notices, n.key ∈ s.alerts.notices) ∧ ∀ k ∈ c.entries, ∃ e ∈ s.centre.queue, e.number = k

/-- The order messages of a reply are read back as they were written, and what follows the stated count is
ignored (R184, R185). -/
def Obligations.OrderMessagesAreRead : Prop :=
  ∀ (ms : List OrderMessage) (rest : List Byte), (∀ m ∈ ms, m.body.length ≤ 255) →
    readMessages ms.length
      (ms.flatMap (fun m => [m.message, m.kind, byteOf m.body.length] ++ m.body) ++ rest) = ms

/-! ## Alerts -/

/-- The flags of an alert entry: a rise sets both, a fall clears present alone, a report that matches changes
nothing, an event latches and leaves present clear (R173); an acknowledge clears the latch of a selected entry whose
present flag is clear, and of no other (R175). -/
def Obligations.AlertFlagsFollowTheReports : Prop :=
  (∀ (u : AlertUnit) (k x : AlertKey),
    (k ∈ (u.rise k).present ∧ (u.Wf → k ∈ (u.rise k).latched)) ∧
    (x ≠ k → (x ∈ (u.rise k).present ↔ x ∈ u.present) ∧ (x ∈ (u.rise k).latched ↔ x ∈ u.latched)) ∧
    (k ∈ u.present → u.rise k = u) ∧
    (k ∉ u.present → u.fall k = u) ∧
    ((u.fall k).latched = u.latched ∧ (u.present.Nodup → k ∉ (u.fall k).present) ∧
      (x ≠ k → (x ∈ (u.fall k).present ↔ x ∈ u.present))) ∧
    (u.present.Nodup → (k ∉ (u.event k).present) ∧ (u.Wf → k ∈ (u.event k).latched))) ∧
  ∀ (u : AlertUnit) (scope : AckScope) (x : AlertKey), u.Wf →
    (u.acknowledge scope).present = u.present ∧ (u.acknowledge scope).masked = u.masked ∧
    (x ∈ (u.acknowledge scope).latched ↔ x ∈ u.latched ∧ ¬ (scope.selects x = true ∧ x ∉ u.present)) ∧
    (x ∈ (u.acknowledge scope).notices ↔ x ∈ u.notices ∧ ¬ (scope.selects x = true ∧ x ∉ u.present)) ∧
    (x ∈ u.present → x ∈ (u.acknowledge scope).latched)

/-! ## Modes and tables -/

/-- MODE RUN enters STARTUP from STANDBY with a pass requested, is accepted without effect in STARTUP and ACTIVE, and
is refused in UNCONFIGURED (R19). MODE STANDBY is refused BUSY while a shoulder order is OPENING, HALTED or CLOSING,
and else enters STANDBY with no demand, no pass, no queued command and a fresh interval 0 (R20, R21, R53, R62). -/
def Obligations.ModeOrdersMoveTheMode : Prop :=
  (∀ s : State, s.mode = .standby → s.composer.pass = none →
    s.carryOut .modeRun = ({ s with modeControl := { s.modeControl with mode := .startup, startupCount := 0 },
                                    composer := { s.composer with pass := some (s.gantryCount - 1) } }, accepted)) ∧
  (∀ s : State, s.mode = .startup ∨ s.mode = .active → s.carryOut .modeRun = (s, accepted)) ∧
  (∀ s : State, s.mode = .unconfigured →
    s.carryOut .modeRun = (s, refused .wrongMode) ∧ s.carryOut .modeStandby = (s, refused .wrongMode)) ∧
  (∀ s : State, s.mode = .standby → s.carryOut .modeStandby = (s, accepted)) ∧
  ∀ s : State, s.mode = .startup ∨ s.mode = .active →
    let running := ∃ x ∈ s.closures.shoulderOrders, x.2.phase = .opening ∨ x.2.phase = .halted ∨ x.2.phase = .closing
    (running → s.carryOut .modeStandby = (s, refused .busy)) ∧
    (¬ running → (s.carryOut .modeStandby).2 = accepted ∧
      let t := (s.carryOut .modeStandby).1
      t.mode = .standby ∧ t.closures = s.closures ∧ t.limitOrders = s.limitOrders ∧ t.stations = s.stations ∧
      t.waiting = s.waiting ∧ t.tables = s.tables ∧ t.alerts = s.alerts ∧
      t.composer.pass = none ∧ t.composer.queue = [] ∧
      (∀ g, (t.gantryControl g).demanded = none ∧ (t.gantryControl g).dwell = 0 ∧
        (t.gantryControl g).pendingIncrease = false ∧ (t.gantryControl g).band = (s.gantryControl g).band ∧
        (t.gantryControl g).unsupported = (s.gantryControl g).unsupported) ∧
      (∀ g, t.deliveryRec g = { s.deliveryRec g with demanded := none }) ∧
      t.sequencer.interval = 0 ∧ t.sequencer.markPending = false ∧ t.sequencer.evaluationTimer = none ∧
      t.sequencer.intervalTimer = some (s.par.intervalLength * 1000))

/-- TABLE LOAD (R2 to R4): refused in STARTUP and ACTIVE and at a failing check, with everything as it was; accepted,
the section takes its declared length, the records carried stand at their indices, the others are kept unless the
length changes, and the table-checked flag is clear. -/
def Obligations.TableLoadWritesTheSection : Prop :=
  (∀ (s : State) (sect length first : Nat) (records : List (List Byte)),
    (s.mode = .startup ∨ s.mode = .active →
      s.carryOut (.tableLoad sect length first records) = (s, refused .wrongMode)) ∧
    (s.mode = .unconfigured ∨ s.mode = .standby → ∀ i item, s.tables.load sect length first records = .inr (i, item) →
      s.carryOut (.tableLoad sect length first records) = (s, refused .badTable (.table sect i item))) ∧
    (s.mode = .unconfigured → ∀ t, s.tables.load sect length first records = .inl t →
      s.carryOut (.tableLoad sect length first records) =
        ({ s with tables := t, modeControl := { s.modeControl with tableChecked := false } }, accepted)) ∧
    (s.mode = .standby → ∀ t, s.tables.load sect length first records = .inl t →
      let u := (s.carryOut (.tableLoad sect length first records)).1
      (s.carryOut (.tableLoad sect length first records)).2 = accepted ∧ u.mode = .unconfigured ∧ u.tables = t ∧
        u.modeControl.tableChecked = false ∧ u.limitOrders = [] ∧ u.closures.register = [] ∧ u.waiting = [] ∧
        u.centre.queue = s.centre.queue ∧ u.alerts.latched = s.alerts.latched)) ∧
  (∀ (α : Type) (length first : Nat) (rs : List α) (places : List (Option α)) (i : Nat),
    first + rs.length ≤ length →
    (loadSection length first rs places).length = length ∧
    (loadSection length first rs places)[i]? =
      if first ≤ i ∧ i < first + rs.length then some (rs[i - first]?)
      else if places.length = length then places[i]? else if i < length then some none else none) ∧
  ∀ (t t' : Tables) (sect length first : Nat) (records : List (List Byte)),
    t.load sect length first records = .inl t' → first + records.length ≤ length ∧
    ((sect = 1 ∧ length = 1 ∧ ∃ rs, readRecords readParams first records = .inl rs ∧ rs.length = records.length ∧
        t' = { t with params := loadSection length first rs t.params }) ∨
     (sect = 2 ∧ 1 ≤ length ∧ length ≤ 48 ∧ ∃ rs, readRecords readStation first records = .inl rs ∧
        rs.length = records.length ∧ t' = { t with stations := loadSection length first rs t.stations }) ∨
     (sect = 3 ∧ 1 ≤ length ∧ length ≤ 32 ∧ ∃ rs, readRecords readGantry first records = .inl rs ∧
        rs.length = records.length ∧ t' = { t with gantries := loadSection length first rs t.gantries }) ∨
     (sect = 4 ∧ 1 ≤ length ∧ length ≤ 6 ∧ ∃ rs, readRecords readBand first records = .inl rs ∧
        rs.length = records.length ∧ t' = { t with bands := loadSection length first rs t.bands }) ∨
     (sect = 5 ∧ 1 ≤ length ∧ length ≤ 128 ∧ ∃ rs, readRecords readSlot first records = .inl rs ∧
        rs.length = records.length ∧ t' = { t with cycle := loadSection length first rs t.cycle }))

/-- RESTART (R28, R29, R178): the tables, the link state, the counters, the capture record, the confirmed picture of
the signs, the centre link and the report numbers are kept; measurements, bands, orders and queued work are not. -/
def Obligations.RestartKeepsAndClears : Prop :=
  ∀ s : State, (s.carryOut .restart).2 = accepted ∧
    let t := (s.carryOut .restart).1
    t.mode = (if s.modeControl.tableChecked then .standby else .unconfigured) ∧
    t.modeControl.tableChecked = s.modeControl.tableChecked ∧ t.modeControl.startupCount = 0 ∧
    t.tables = s.tables ∧ t.straps = s.straps ∧
    (t.link.receivePath = s.link.receivePath ∧ t.link.cpd = s.link.cpd ∧ t.link.pathMode = s.link.pathMode ∧
      t.link.checkRun = s.link.checkRun ∧ t.link.nonValid = s.link.nonValid ∧ t.link.down = s.link.down ∧
      t.link.counters = s.link.counters ∧ t.link.capture = s.link.capture ∧ t.link.frozen = false ∧
      t.link.nextTag = s.link.nextTag) ∧
    (∀ n, t.stationRec n = .empty) ∧ t.waiting = [] ∧ (∀ g, t.gantryControl g = .reset) ∧ t.limitOrders = [] ∧
    t.closures.register = [] ∧ (∀ g, t.shoulder g = .closed) ∧ t.composer.pass = none ∧ t.composer.queue = [] ∧
    (∀ g, t.deliveryRec g = { s.deliveryRec g with demanded := none }) ∧
    t.centre = { s.centre with queue := [], round := none } ∧ t.alerts.masked = [] ∧
    (∀ k, k ∈ t.alerts.present ↔ (∃ p, k = downKey p ∧ s.link.down.get p = true) ∨
      (k = disturbedKey ∧ s.link.cpd = true) ∨ (k = countPeriodKey ∧ 65535 ≤ s.link.counters.exchanges) ∨
      (∃ g < 32, k = alertKey .signFault g ∧
        ((s.deliveryRec g).state = .failed ∨ (s.deliveryRec g).failedLanes ≠ [])) ∨
      (k = centreLostKey ∧ s.centre.link = .lost)) ∧
    t.alerts.latched = t.alerts.present ∧
    (s.modeControl.tableChecked = true → t.sequencer.interval = 0 ∧ t.sequencer.markPending = false ∧
      t.sequencer.evaluationTimer = none ∧ t.sequencer.intervalTimer = some (s.par.intervalLength * 1000)) ∧
    (s.modeControl.tableChecked = false → t.sequencer = s.sequencer)

/-! ## Laws that every step keeps -/

/-- The law of the Report Queue (R169) and the room that the credit keeps in it (R161). -/
def Obligations.ReportQueueLaw : Prop :=
  ∀ s t : State, s.OneRequestWf → s.ReportsWf → s.CreditWf → step s = .next t → t.ReportsWf ∧ t.CreditWf

/-- The Alert Table, the Notice List, the masks and the line agree (R172 to R177), and the capture record is frozen
exactly while the latch of an UNMASKED LINK_EXCEPTION stands (R52). -/
def Obligations.AlertTableLaw : Prop :=
  ∀ s t : State, s.alerts.Wf → s.CaptureWf → step s = .next t → t.alerts.Wf ∧ t.CaptureWf

/-- The table-checked flag is set exactly outside UNCONFIGURED, and there the tables in use have passed TABLE CHECK
(R1, R12, R17). -/
def Obligations.CheckedTablesLaw : Prop :=
  ∀ s t : State, s.FlagWf → s.CheckedWf → step s = .next t → t.FlagWf ∧ t.CheckedWf

/-- The table store only holds records within their ranges, in sections no longer than theirs (R3, R5, R7 to R11),
and the record lists keep their sizes. -/
def Obligations.TableStoreLaw : Prop :=
  ∀ s t : State, s.ShapeWf → s.tables.Wf → step s = .next t → t.ShapeWf ∧ t.tables.Wf

/-- In UNCONFIGURED and STANDBY no pass runs, nothing is queued and nothing is demanded (R18, R21, R140, R156); the
Sign Command Queue holds at most one entry per gantry (R146). -/
def Obligations.QuietOutsideSigningLaw : Prop :=
  ∀ s t : State, s.QuietWf → s.SignQueueWf → step s = .next t → t.QuietWf ∧ t.SignQueueWf

/-- The registers hold at most 8 and 12 orders with unique ids and slots, no Lane Overlay List more than 4 ids or
one twice, and no gantry is under two shoulder orders (R106, R119, R120, R131). -/
def Obligations.OrderRegistersLaw : Prop :=
  ∀ s t : State, s.OrdersWf → step s = .next t → t.OrdersWf

/-- Every order held lies on gantries of the segment, every closure is signed at its site or up to two gantries
upstream, and UNCONFIGURED holds no order (R106, R119, R125, R170). -/
def Obligations.OrderPlacesLaw : Prop :=
  ∀ s t : State, s.FlagWf → s.OrdersWf → s.PlacesWf → step s = .next t → t.PlacesWf

/-- Each Lane Overlay List holds the ids of the orders whose footprint covers its gantry-lane, in order of
acceptance (R120). -/
def Obligations.OverlayListsLaw : Prop :=
  ∀ s t : State, s.FlagWf → s.ShapeWf → s.tables.Wf → s.OrdersWf → s.PlacesWf → s.OverlayWf → step s = .next t →
    t.OverlayWf

/-- Each gantry has the shoulder state that the order covering it has reached there, and CLOSED where no order covers
it (R130, R133 to R138). -/
def Obligations.ShoulderRunLaw : Prop :=
  ∀ s t : State, s.FlagWf → s.ShapeWf → s.OrdersWf → s.PlacesWf → s.ShoulderWf → step s = .next t → t.ShoulderWf

/-- The law of the demanded limit (R115): a Display Set member or NL, never above the gantry's Gmax. -/
def Obligations.DemandedLimitLaw : Prop :=
  ∀ s t : State, s.FlagWf → s.CheckedWf → s.ShapeWf → s.tables.Wf → s.QuietWf → s.DemandWf → step s = .next t →
    t.DemandWf

/-- The law of the cascade (R115), for every gantry that no pass has still to visit: within one Step of its
governor's demanded limit, or the smallest Display Set member where that bound lies below it. -/
def Obligations.CascadeLaw : Prop :=
  ∀ s t : State, s.FlagWf → s.CheckedWf → s.ShapeWf → s.tables.Wf → s.QuietWf → s.DemandWf → s.CascadeWf →
    step s = .next t → t.CascadeWf

/-- The law of the shoulder (R130), for every gantry that no pass has still to visit: lane 0 has a demanded aspect of
rank below 2 only while the gantry's shoulder state is OPEN. -/
def Obligations.ShoulderAspectLaw : Prop :=
  ∀ s t : State, s.FlagWf → s.ShapeWf → s.tables.Wf → s.OrdersWf → s.PlacesWf → s.ShoulderWf → s.QuietWf →
    s.ShoulderDemandWf → step s = .next t → t.ShoulderDemandWf

/-- The law of closure protection (R125), of the gantries that no pass has still to visit: every closure in force is
CLOSURE_UNPROTECTED, or its effective site is fit and has CLOSED demanded on its lanes. -/
def Obligations.ClosureProtectionLaw : Prop :=
  ∀ s t : State, s.FlagWf → s.ShapeWf → s.tables.Wf → s.OrdersWf → s.PlacesWf → s.OverlayWf → s.QuietWf →
    s.ProtectionWf → step s = .next t → t.ProtectionWf

/-- The ranges of the Link Controller's counts: tags below 16, runs at most 16, the five counters at most 65535, and
the errors of each path and of all never above Exchange Count (R30, R40, R48). -/
def Obligations.LinkCountersLaw : Prop :=
  ∀ s t : State, s.link.CountsWf → step s = .next t → t.link.CountsWf

/-- One request at a time (R31, R54, R62, R64): none is held while one is in flight, the built-in idle wait runs only
in UNCONFIGURED with none out, and nothing is out while the reset input is asserted. -/
def Obligations.OneRequestLaw : Prop :=
  ∀ s t : State, s.FlagWf → s.OneRequestWf → step s = .next t → t.OneRequestWf

/-- The law of dwell (R116): no step lets a gantry's demanded limit rise while its dwell timer is above zero. -/
def Obligations.DwellLaw : Prop :=
  ∀ (s t : State) (g : Nat) (l m : Limit), step s = .next t → 0 < (s.gantryControl g).dwell →
    (s.gantryControl g).demanded = some l → (t.gantryControl g).demanded = some m →
    s.par.value m ≤ s.par.value l
end

