-- ==== Sys2Proof/Laws/Alerts.lean ====
section
/-! SUPPORT. The Alert Unit: what each of its operations does to the present and latched flags, the masks and the
Notice List, and that each keeps `AlertUnit.Wf`. -/

namespace Sys2Proof.Machine

/-! ## Lists kept in the table's order -/

@[simp] theorem mem_insertKey {k x : AlertKey} {l : List AlertKey} : x ∈ insertKey k l ↔ x = k ∨ x ∈ l := by
  induction l with
  | nil => simp [insertKey]
  | cons y ys ih =>
    unfold insertKey
    split
    · subst_vars; simp
    · split
      · simp
      · simp only [List.mem_cons, ih]; tauto

@[simp] theorem mem_insertKind {k x : AlertKind} {l : List AlertKind} : x ∈ insertKind k l ↔ x = k ∨ x ∈ l := by
  induction l with
  | nil => simp [insertKind]
  | cons y ys ih =>
    unfold insertKind
    split
    · subst_vars; simp
    · split
      · simp
      · simp only [List.mem_cons, ih]; tauto

theorem nodup_insertKey {k : AlertKey} {l : List AlertKey} (hk : k ∉ l) (h : l.Nodup) : (insertKey k l).Nodup := by
  induction l with
  | nil => simp [insertKey]
  | cons y ys ih =>
    obtain ⟨h1, h2⟩ := List.nodup_cons.mp h
    unfold insertKey
    split
    · exact h
    · split
      · exact List.nodup_cons.mpr ⟨hk, h⟩
      · refine List.nodup_cons.mpr ⟨?_, ih (fun q => hk (List.mem_cons_of_mem _ q)) h2⟩
        rw [mem_insertKey]
        rintro (rfl | q)
        · exact hk List.mem_cons_self
        · exact h1 q

/-! ## The fields of each operation -/

variable (u : AlertUnit) (k x : AlertKey)

@[simp] theorem AlertUnit.settleLine_present : u.settleLine.present = u.present := rfl
@[simp] theorem AlertUnit.settleLine_latched : u.settleLine.latched = u.latched := rfl
@[simp] theorem AlertUnit.settleLine_notices : u.settleLine.notices = u.notices := rfl
@[simp] theorem AlertUnit.settleLine_masked : u.settleLine.masked = u.masked := rfl
@[simp] theorem AlertUnit.settleLine_line : u.settleLine.line = u.latched.any (fun k => u.unmasked k.kind) := rfl
@[simp] theorem AlertUnit.owe_present : (u.owe k).present = u.present := by unfold AlertUnit.owe; split <;> rfl
@[simp] theorem AlertUnit.owe_latched : (u.owe k).latched = u.latched := by unfold AlertUnit.owe; split <;> rfl
@[simp] theorem AlertUnit.owe_masked : (u.owe k).masked = u.masked := by unfold AlertUnit.owe; split <;> rfl
@[simp] theorem AlertUnit.owe_line : (u.owe k).line = u.line := by unfold AlertUnit.owe; split <;> rfl

/-- An entry that comes to owe a notice joins the Notice List's end, or the list stands. -/
theorem AlertUnit.owe_notices : (u.owe k).notices = u.notices ∨
    ((u.owe k).notices = u.notices ++ [k] ∧ k ∉ u.notices ∧ u.unmasked k.kind = true) := by
  unfold AlertUnit.owe
  split
  · rename_i h; simp at h; exact .inr ⟨rfl, h.2, h.1⟩
  · exact .inl rfl

/-- An entry of an UNMASKED kind that owes a notice is in the Notice List. -/
theorem AlertUnit.mem_owe (h : u.unmasked k.kind = true) : x ∈ (u.owe k).notices ↔ x ∈ u.notices ∨ x = k := by
  unfold AlertUnit.owe
  split
  · simp
  · rename_i q; simp [h] at q; exact ⟨.inl, fun r => r.elim id (fun e => e ▸ q)⟩

@[simp] theorem AlertUnit.rise_masked : (u.rise k).masked = u.masked := by unfold AlertUnit.rise; split <;> simp
@[simp] theorem AlertUnit.fall_masked : (u.fall k).masked = u.masked := by
  unfold AlertUnit.fall; dsimp only; split <;> (try split) <;> simp
@[simp] theorem AlertUnit.fall_latched : (u.fall k).latched = u.latched := by
  unfold AlertUnit.fall; dsimp only; split <;> (try split) <;> simp
@[simp] theorem AlertUnit.fall_line : (u.fall k).line = u.line := by
  unfold AlertUnit.fall; dsimp only; split <;> (try split) <;> simp
@[simp] theorem AlertUnit.event_masked : (u.event k).masked = u.masked := by simp [AlertUnit.event]

/-- A kind is masked or not by the masks alone. -/
theorem AlertUnit.unmasked_congr {u v : AlertUnit} (h : u.masked = v.masked) (c : AlertKind) :
    u.unmasked c = v.unmasked c := by simp [AlertUnit.unmasked, h]

/-! ## Rises, falls and events (R173) -/

@[simp] theorem AlertUnit.mem_rise_present : x ∈ (u.rise k).present ↔ x = k ∨ x ∈ u.present := by
  unfold AlertUnit.rise
  split
  · rename_i h; simp at h; exact ⟨.inr, fun r => r.elim (fun e => e ▸ h) id⟩
  · simp

/-- The latched flags after a rise. -/
theorem AlertUnit.mem_rise_latched (h : ∀ k ∈ u.present, k ∈ u.latched) :
    x ∈ (u.rise k).latched ↔ x = k ∨ x ∈ u.latched := by
  unfold AlertUnit.rise
  split
  · rename_i q; simp at q; exact ⟨.inr, fun r => r.elim (fun e => e ▸ h k q) id⟩
  · simp

theorem AlertUnit.fall_present : (u.fall k).present = u.present.erase k := by
  unfold AlertUnit.fall
  dsimp only
  split
  · split <;> simp
  · rename_i h; simp at h; exact (List.erase_of_not_mem h).symm

/-- A fall leaves the entry's present flag clear. -/
theorem AlertUnit.not_mem_fall_present (h : u.present.Nodup) : k ∉ (u.fall k).present := by
  rw [u.fall_present]; exact h.not_mem_erase

/-- An event leaves the entry's present flag clear. -/
theorem AlertUnit.not_mem_event_present (h : u.Wf) : k ∉ (u.event k).present := by
  refine AlertUnit.not_mem_fall_present _ k ?_
  unfold AlertUnit.rise
  split
  · exact h.2.1
  · rename_i hk
    simp only [List.contains_eq_mem, decide_eq_true_eq] at hk
    simpa using nodup_insertKey hk h.2.1

theorem AlertUnit.mem_fall_present : x ≠ k → (x ∈ (u.fall k).present ↔ x ∈ u.present) := by
  intro h; rw [u.fall_present]; exact List.mem_erase_of_ne h

/-- The latched flags after an event. -/
theorem AlertUnit.mem_event_latched (h : ∀ k ∈ u.present, k ∈ u.latched) :
    x ∈ (u.event k).latched ↔ x = k ∨ x ∈ u.latched := by
  unfold AlertUnit.event
  rw [AlertUnit.fall_latched, u.mem_rise_latched k x h]

/-! ## Soundness -/

/-- The Notice List after an entry joins it. -/
theorem AlertUnit.owe_wf (hn : u.notices.Nodup) (hl : ∀ k ∈ u.notices, k ∈ u.latched ∧ u.unmasked k.kind = true)
    (hk : k ∈ u.latched) :
    (u.owe k).notices.Nodup ∧
      ∀ x ∈ (u.owe k).notices, x ∈ (u.owe k).latched ∧ (u.owe k).unmasked x.kind = true := by
  have hm : ∀ c, (u.owe k).unmasked c = u.unmasked c := AlertUnit.unmasked_congr (by simp)
  simp only [AlertUnit.owe_latched, hm]
  rcases u.owe_notices k with h | ⟨h, h1, h2⟩ <;> rw [h]
  · exact ⟨hn, hl⟩
  · refine ⟨List.nodup_append.mpr ⟨hn, by simp, by simp; rintro a ha rfl; exact h1 ha⟩, ?_⟩
    intro x hx
    rcases List.mem_append.mp hx with q | q
    · exact hl x q
    · rw [List.mem_singleton.mp q]; exact ⟨hk, h2⟩

/-- A rise keeps the unit sound. -/
theorem AlertUnit.rise_wf {u : AlertUnit} (h : u.Wf) (k : AlertKey) : (u.rise k).Wf := by
  obtain ⟨h1, h0, h2, h3, h4⟩ := h
  unfold AlertUnit.rise
  split
  · exact ⟨h1, h0, h2, h3, h4⟩
  · have q := AlertUnit.owe_wf { u with present := insertKey k u.present, latched := insertKey k u.latched } k h2
      (fun x hx => ⟨by simp [h3 x hx], (h3 x hx).2⟩) (by simp)
    rename_i hk
    simp only [List.contains_eq_mem, decide_eq_true_eq] at hk
    refine ⟨?_, by simpa using nodup_insertKey hk h0, q.1, q.2, ?_⟩
    · simp only [AlertUnit.settleLine_present, AlertUnit.settleLine_latched, AlertUnit.owe_present,
        AlertUnit.owe_latched, mem_insertKey]
      rintro x (rfl | hx)
      · exact .inl rfl
      · exact .inr (h1 x hx)
    · rfl

/-- A fall keeps the unit sound. -/
theorem AlertUnit.fall_wf {u : AlertUnit} (h : u.Wf) (k : AlertKey) : (u.fall k).Wf := by
  obtain ⟨h1, h0, h2, h3, h4⟩ := h
  have he : ∀ x ∈ u.present.erase k, x ∈ u.latched := fun x hx => h1 x (List.mem_of_mem_erase hx)
  unfold AlertUnit.fall
  dsimp only
  split
  · split
    · rename_i _ hk
      simp at hk
      have q := AlertUnit.owe_wf { u with present := u.present.erase k } k h2 h3 hk
      refine ⟨by simpa using he, by simpa using h0.erase k, q.1, q.2, ?_⟩
      simp only [AlertUnit.owe_line, AlertUnit.owe_latched, h4]
      congr 1
      funext y
      exact (AlertUnit.unmasked_congr (by simp) _).symm
    · exact ⟨he, h0.erase k, h2, h3, h4⟩
  · exact ⟨h1, h0, h2, h3, h4⟩

/-- An event keeps the unit sound. -/
theorem AlertUnit.event_wf {u : AlertUnit} (h : u.Wf) (k : AlertKey) : (u.event k).Wf :=
  AlertUnit.fall_wf (AlertUnit.rise_wf h k) k

/-- Falls and rises of several entries keep the unit sound. -/
theorem State.reportAll_wf {s : State} (h : s.alerts.Wf) (falls rises : List AlertKey) :
    (s.reportAll falls rises).alerts.Wf := by
  have lower : ∀ (ks : List AlertKey) (t : State), t.alerts.Wf →
      (ks.foldl (fun (t : State) k => t.lower k) t).alerts.Wf := by
    intro ks
    induction ks with
    | nil => intro t ht; exact ht
    | cons k ks ih => intro t ht; exact ih _ (AlertUnit.fall_wf ht k)
  have raise : ∀ (ks : List AlertKey) (t : State), t.alerts.Wf →
      (ks.foldl (fun (t : State) k => t.raise k) t).alerts.Wf := by
    intro ks
    induction ks with
    | nil => intro t ht; exact ht
    | cons k ks ih => intro t ht; exact ih _ (AlertUnit.rise_wf ht k)
  exact raise _ _ (lower _ _ h)

/-- A change of a condition keeps the unit sound. -/
theorem State.reportChange_wf {s : State} (h : s.alerts.Wf) (k : AlertKey) (a b : Bool) :
    (s.reportChange k a b).alerts.Wf := by
  cases a <;> cases b
  · exact h
  · exact AlertUnit.rise_wf h k
  · exact AlertUnit.fall_wf h k
  · exact h

/-- An acknowledge keeps the unit sound. -/
theorem AlertUnit.acknowledge_wf {u : AlertUnit} (h : u.Wf) (scope : AckScope) : (u.acknowledge scope).Wf := by
  obtain ⟨h1, h0, h2, h3, h4⟩ := h
  refine ⟨?_, h0, h2.filter _, ?_, rfl⟩
  · intro k hk
    have hk' : k ∈ u.present := hk
    exact List.mem_filter.mpr ⟨h1 k hk', by simp [AlertUnit.clears, hk']⟩
  · intro k hk
    obtain ⟨a, b⟩ := List.mem_filter.mp hk
    exact ⟨List.mem_filter.mpr ⟨(h3 k a).1, b⟩, (h3 k a).2⟩

/-- A delivery keeps the unit sound. -/
theorem AlertUnit.deliver_wf {u : AlertUnit} (h : u.Wf) (ns : List CarriedNotice) : (u.deliver ns).Wf := by
  obtain ⟨h1, h0, h2, h3, h4⟩ := h
  exact ⟨h1, h0, h2.filter _, fun k hk => h3 k (List.mem_filter.mp hk).1, h4⟩

/-- Masking a kind keeps the unit sound. -/
theorem AlertUnit.mask_wf {u : AlertUnit} (h : u.Wf) (c : AlertKind) : (u.mask c).Wf := by
  obtain ⟨h1, h0, h2, h3, h4⟩ := h
  unfold AlertUnit.mask
  split
  · refine ⟨h1, h0, h2.filter _, ?_, rfl⟩
    intro k hk
    obtain ⟨a, b⟩ := List.mem_filter.mp hk
    refine ⟨(h3 k a).1, ?_⟩
    have := (h3 k a).2
    simp [AlertUnit.unmasked] at this b ⊢
    exact ⟨b, this⟩
  · exact ⟨h1, h0, h2, h3, h4⟩

end Sys2Proof.Machine
end

