-- ==== Sys2Proof/Laws/State.lean ====
section
/-! SUPPORT. The small lemmas of the record updates: each field after each update, true by rfl. -/

namespace Sys2Proof.Machine

variable (s : State)

/-! ### setMode -/

@[simp] theorem State.setMode_pending (m : Mode) : (s.setMode m).pending = s.pending := rfl
@[simp] theorem State.setMode_resetAsserted (m : Mode) : (s.setMode m).resetAsserted = s.resetAsserted := rfl
@[simp] theorem State.setMode_straps (m : Mode) : (s.setMode m).straps = s.straps := rfl
@[simp] theorem State.setMode_modeControl (m : Mode) : (s.setMode m).modeControl = { s.modeControl with mode := m } := rfl
@[simp] theorem State.setMode_tables (m : Mode) : (s.setMode m).tables = s.tables := rfl
@[simp] theorem State.setMode_link (m : Mode) : (s.setMode m).link = s.link := rfl
@[simp] theorem State.setMode_sequencer (m : Mode) : (s.setMode m).sequencer = s.sequencer := rfl
@[simp] theorem State.setMode_stations (m : Mode) : (s.setMode m).stations = s.stations := rfl
@[simp] theorem State.setMode_waiting (m : Mode) : (s.setMode m).waiting = s.waiting := rfl
@[simp] theorem State.setMode_control (m : Mode) : (s.setMode m).control = s.control := rfl
@[simp] theorem State.setMode_limitOrders (m : Mode) : (s.setMode m).limitOrders = s.limitOrders := rfl
@[simp] theorem State.setMode_closures (m : Mode) : (s.setMode m).closures = s.closures := rfl
@[simp] theorem State.setMode_composer (m : Mode) : (s.setMode m).composer = s.composer := rfl
@[simp] theorem State.setMode_centre (m : Mode) : (s.setMode m).centre = s.centre := rfl
@[simp] theorem State.setMode_alerts (m : Mode) : (s.setMode m).alerts = s.alerts := rfl
@[simp] theorem State.setMode_evaluationsAsked (m : Mode) : (s.setMode m).evaluationsAsked = s.evaluationsAsked := rfl
@[simp] theorem State.setMode_countOwed (m : Mode) : (s.setMode m).countOwed = s.countOwed := rfl

/-! ### setStation -/

@[simp] theorem State.setStation_pending (n : Nat) (r : StationRec) : (s.setStation n r).pending = s.pending := rfl
@[simp] theorem State.setStation_resetAsserted (n : Nat) (r : StationRec) : (s.setStation n r).resetAsserted = s.resetAsserted := rfl
@[simp] theorem State.setStation_straps (n : Nat) (r : StationRec) : (s.setStation n r).straps = s.straps := rfl
@[simp] theorem State.setStation_modeControl (n : Nat) (r : StationRec) : (s.setStation n r).modeControl = s.modeControl := rfl
@[simp] theorem State.setStation_tables (n : Nat) (r : StationRec) : (s.setStation n r).tables = s.tables := rfl
@[simp] theorem State.setStation_link (n : Nat) (r : StationRec) : (s.setStation n r).link = s.link := rfl
@[simp] theorem State.setStation_sequencer (n : Nat) (r : StationRec) : (s.setStation n r).sequencer = s.sequencer := rfl
@[simp] theorem State.setStation_stations (n : Nat) (r : StationRec) : (s.setStation n r).stations = s.stations.set n r := rfl
@[simp] theorem State.setStation_waiting (n : Nat) (r : StationRec) : (s.setStation n r).waiting = s.waiting := rfl
@[simp] theorem State.setStation_control (n : Nat) (r : StationRec) : (s.setStation n r).control = s.control := rfl
@[simp] theorem State.setStation_limitOrders (n : Nat) (r : StationRec) : (s.setStation n r).limitOrders = s.limitOrders := rfl
@[simp] theorem State.setStation_closures (n : Nat) (r : StationRec) : (s.setStation n r).closures = s.closures := rfl
@[simp] theorem State.setStation_composer (n : Nat) (r : StationRec) : (s.setStation n r).composer = s.composer := rfl
@[simp] theorem State.setStation_centre (n : Nat) (r : StationRec) : (s.setStation n r).centre = s.centre := rfl
@[simp] theorem State.setStation_alerts (n : Nat) (r : StationRec) : (s.setStation n r).alerts = s.alerts := rfl
@[simp] theorem State.setStation_evaluationsAsked (n : Nat) (r : StationRec) : (s.setStation n r).evaluationsAsked = s.evaluationsAsked := rfl
@[simp] theorem State.setStation_countOwed (n : Nat) (r : StationRec) : (s.setStation n r).countOwed = s.countOwed := rfl

/-! ### setControl -/

@[simp] theorem State.setControl_pending (g : Nat) (c : GantryControl) : (s.setControl g c).pending = s.pending := rfl
@[simp] theorem State.setControl_resetAsserted (g : Nat) (c : GantryControl) : (s.setControl g c).resetAsserted = s.resetAsserted := rfl
@[simp] theorem State.setControl_straps (g : Nat) (c : GantryControl) : (s.setControl g c).straps = s.straps := rfl
@[simp] theorem State.setControl_modeControl (g : Nat) (c : GantryControl) : (s.setControl g c).modeControl = s.modeControl := rfl
@[simp] theorem State.setControl_tables (g : Nat) (c : GantryControl) : (s.setControl g c).tables = s.tables := rfl
@[simp] theorem State.setControl_link (g : Nat) (c : GantryControl) : (s.setControl g c).link = s.link := rfl
@[simp] theorem State.setControl_sequencer (g : Nat) (c : GantryControl) : (s.setControl g c).sequencer = s.sequencer := rfl
@[simp] theorem State.setControl_stations (g : Nat) (c : GantryControl) : (s.setControl g c).stations = s.stations := rfl
@[simp] theorem State.setControl_waiting (g : Nat) (c : GantryControl) : (s.setControl g c).waiting = s.waiting := rfl
@[simp] theorem State.setControl_control (g : Nat) (c : GantryControl) : (s.setControl g c).control = s.control.set g c := rfl
@[simp] theorem State.setControl_limitOrders (g : Nat) (c : GantryControl) : (s.setControl g c).limitOrders = s.limitOrders := rfl
@[simp] theorem State.setControl_closures (g : Nat) (c : GantryControl) : (s.setControl g c).closures = s.closures := rfl
@[simp] theorem State.setControl_composer (g : Nat) (c : GantryControl) : (s.setControl g c).composer = s.composer := rfl
@[simp] theorem State.setControl_centre (g : Nat) (c : GantryControl) : (s.setControl g c).centre = s.centre := rfl
@[simp] theorem State.setControl_alerts (g : Nat) (c : GantryControl) : (s.setControl g c).alerts = s.alerts := rfl
@[simp] theorem State.setControl_evaluationsAsked (g : Nat) (c : GantryControl) : (s.setControl g c).evaluationsAsked = s.evaluationsAsked := rfl
@[simp] theorem State.setControl_countOwed (g : Nat) (c : GantryControl) : (s.setControl g c).countOwed = s.countOwed := rfl

/-! ### setDelivery -/

@[simp] theorem State.setDelivery_pending (g : Nat) (d : DeliveryRec) : (s.setDelivery g d).pending = s.pending := rfl
@[simp] theorem State.setDelivery_resetAsserted (g : Nat) (d : DeliveryRec) : (s.setDelivery g d).resetAsserted = s.resetAsserted := rfl
@[simp] theorem State.setDelivery_straps (g : Nat) (d : DeliveryRec) : (s.setDelivery g d).straps = s.straps := rfl
@[simp] theorem State.setDelivery_modeControl (g : Nat) (d : DeliveryRec) : (s.setDelivery g d).modeControl = s.modeControl := rfl
@[simp] theorem State.setDelivery_tables (g : Nat) (d : DeliveryRec) : (s.setDelivery g d).tables = s.tables := rfl
@[simp] theorem State.setDelivery_link (g : Nat) (d : DeliveryRec) : (s.setDelivery g d).link = s.link := rfl
@[simp] theorem State.setDelivery_sequencer (g : Nat) (d : DeliveryRec) : (s.setDelivery g d).sequencer = s.sequencer := rfl
@[simp] theorem State.setDelivery_stations (g : Nat) (d : DeliveryRec) : (s.setDelivery g d).stations = s.stations := rfl
@[simp] theorem State.setDelivery_waiting (g : Nat) (d : DeliveryRec) : (s.setDelivery g d).waiting = s.waiting := rfl
@[simp] theorem State.setDelivery_control (g : Nat) (d : DeliveryRec) : (s.setDelivery g d).control = s.control := rfl
@[simp] theorem State.setDelivery_limitOrders (g : Nat) (d : DeliveryRec) : (s.setDelivery g d).limitOrders = s.limitOrders := rfl
@[simp] theorem State.setDelivery_closures (g : Nat) (d : DeliveryRec) : (s.setDelivery g d).closures = s.closures := rfl
@[simp] theorem State.setDelivery_composer (g : Nat) (d : DeliveryRec) : (s.setDelivery g d).composer = { s.composer with delivery := s.composer.delivery.set g d } := rfl
@[simp] theorem State.setDelivery_centre (g : Nat) (d : DeliveryRec) : (s.setDelivery g d).centre = s.centre := rfl
@[simp] theorem State.setDelivery_alerts (g : Nat) (d : DeliveryRec) : (s.setDelivery g d).alerts = s.alerts := rfl
@[simp] theorem State.setDelivery_evaluationsAsked (g : Nat) (d : DeliveryRec) : (s.setDelivery g d).evaluationsAsked = s.evaluationsAsked := rfl
@[simp] theorem State.setDelivery_countOwed (g : Nat) (d : DeliveryRec) : (s.setDelivery g d).countOwed = s.countOwed := rfl

/-! ### setShoulder -/

@[simp] theorem State.setShoulder_pending (g : Nat) (x : ShoulderState) : (s.setShoulder g x).pending = s.pending := rfl
@[simp] theorem State.setShoulder_resetAsserted (g : Nat) (x : ShoulderState) : (s.setShoulder g x).resetAsserted = s.resetAsserted := rfl
@[simp] theorem State.setShoulder_straps (g : Nat) (x : ShoulderState) : (s.setShoulder g x).straps = s.straps := rfl
@[simp] theorem State.setShoulder_modeControl (g : Nat) (x : ShoulderState) : (s.setShoulder g x).modeControl = s.modeControl := rfl
@[simp] theorem State.setShoulder_tables (g : Nat) (x : ShoulderState) : (s.setShoulder g x).tables = s.tables := rfl
@[simp] theorem State.setShoulder_link (g : Nat) (x : ShoulderState) : (s.setShoulder g x).link = s.link := rfl
@[simp] theorem State.setShoulder_sequencer (g : Nat) (x : ShoulderState) : (s.setShoulder g x).sequencer = s.sequencer := rfl
@[simp] theorem State.setShoulder_stations (g : Nat) (x : ShoulderState) : (s.setShoulder g x).stations = s.stations := rfl
@[simp] theorem State.setShoulder_waiting (g : Nat) (x : ShoulderState) : (s.setShoulder g x).waiting = s.waiting := rfl
@[simp] theorem State.setShoulder_control (g : Nat) (x : ShoulderState) : (s.setShoulder g x).control = s.control := rfl
@[simp] theorem State.setShoulder_limitOrders (g : Nat) (x : ShoulderState) : (s.setShoulder g x).limitOrders = s.limitOrders := rfl
@[simp] theorem State.setShoulder_closures (g : Nat) (x : ShoulderState) : (s.setShoulder g x).closures = { s.closures with shoulders := s.closures.shoulders.set g x } := rfl
@[simp] theorem State.setShoulder_composer (g : Nat) (x : ShoulderState) : (s.setShoulder g x).composer = s.composer := rfl
@[simp] theorem State.setShoulder_centre (g : Nat) (x : ShoulderState) : (s.setShoulder g x).centre = s.centre := rfl
@[simp] theorem State.setShoulder_alerts (g : Nat) (x : ShoulderState) : (s.setShoulder g x).alerts = s.alerts := rfl
@[simp] theorem State.setShoulder_evaluationsAsked (g : Nat) (x : ShoulderState) : (s.setShoulder g x).evaluationsAsked = s.evaluationsAsked := rfl
@[simp] theorem State.setShoulder_countOwed (g : Nat) (x : ShoulderState) : (s.setShoulder g x).countOwed = s.countOwed := rfl

/-! ### setRegister -/

@[simp] theorem State.setRegister_pending (r : List Closure) : (s.setRegister r).pending = s.pending := rfl
@[simp] theorem State.setRegister_resetAsserted (r : List Closure) : (s.setRegister r).resetAsserted = s.resetAsserted := rfl
@[simp] theorem State.setRegister_straps (r : List Closure) : (s.setRegister r).straps = s.straps := rfl
@[simp] theorem State.setRegister_modeControl (r : List Closure) : (s.setRegister r).modeControl = s.modeControl := rfl
@[simp] theorem State.setRegister_tables (r : List Closure) : (s.setRegister r).tables = s.tables := rfl
@[simp] theorem State.setRegister_link (r : List Closure) : (s.setRegister r).link = s.link := rfl
@[simp] theorem State.setRegister_sequencer (r : List Closure) : (s.setRegister r).sequencer = s.sequencer := rfl
@[simp] theorem State.setRegister_stations (r : List Closure) : (s.setRegister r).stations = s.stations := rfl
@[simp] theorem State.setRegister_waiting (r : List Closure) : (s.setRegister r).waiting = s.waiting := rfl
@[simp] theorem State.setRegister_control (r : List Closure) : (s.setRegister r).control = s.control := rfl
@[simp] theorem State.setRegister_limitOrders (r : List Closure) : (s.setRegister r).limitOrders = s.limitOrders := rfl
@[simp] theorem State.setRegister_closures (r : List Closure) : (s.setRegister r).closures = { s.closures with register := r } := rfl
@[simp] theorem State.setRegister_composer (r : List Closure) : (s.setRegister r).composer = s.composer := rfl
@[simp] theorem State.setRegister_centre (r : List Closure) : (s.setRegister r).centre = s.centre := rfl
@[simp] theorem State.setRegister_alerts (r : List Closure) : (s.setRegister r).alerts = s.alerts := rfl
@[simp] theorem State.setRegister_evaluationsAsked (r : List Closure) : (s.setRegister r).evaluationsAsked = s.evaluationsAsked := rfl
@[simp] theorem State.setRegister_countOwed (r : List Closure) : (s.setRegister r).countOwed = s.countOwed := rfl

/-! ### raise -/

@[simp] theorem State.raise_pending (k : AlertKey) : (s.raise k).pending = s.pending := rfl
@[simp] theorem State.raise_resetAsserted (k : AlertKey) : (s.raise k).resetAsserted = s.resetAsserted := rfl
@[simp] theorem State.raise_straps (k : AlertKey) : (s.raise k).straps = s.straps := rfl
@[simp] theorem State.raise_modeControl (k : AlertKey) : (s.raise k).modeControl = s.modeControl := rfl
@[simp] theorem State.raise_tables (k : AlertKey) : (s.raise k).tables = s.tables := rfl
@[simp] theorem State.raise_link (k : AlertKey) : (s.raise k).link = s.link := rfl
@[simp] theorem State.raise_sequencer (k : AlertKey) : (s.raise k).sequencer = s.sequencer := rfl
@[simp] theorem State.raise_stations (k : AlertKey) : (s.raise k).stations = s.stations := rfl
@[simp] theorem State.raise_waiting (k : AlertKey) : (s.raise k).waiting = s.waiting := rfl
@[simp] theorem State.raise_control (k : AlertKey) : (s.raise k).control = s.control := rfl
@[simp] theorem State.raise_limitOrders (k : AlertKey) : (s.raise k).limitOrders = s.limitOrders := rfl
@[simp] theorem State.raise_closures (k : AlertKey) : (s.raise k).closures = s.closures := rfl
@[simp] theorem State.raise_composer (k : AlertKey) : (s.raise k).composer = s.composer := rfl
@[simp] theorem State.raise_centre (k : AlertKey) : (s.raise k).centre = s.centre := rfl
@[simp] theorem State.raise_alerts (k : AlertKey) : (s.raise k).alerts = s.alerts.rise k := rfl
@[simp] theorem State.raise_evaluationsAsked (k : AlertKey) : (s.raise k).evaluationsAsked = s.evaluationsAsked := rfl
@[simp] theorem State.raise_countOwed (k : AlertKey) : (s.raise k).countOwed = s.countOwed := rfl

/-! ### lower -/

@[simp] theorem State.lower_pending (k : AlertKey) : (s.lower k).pending = s.pending := rfl
@[simp] theorem State.lower_resetAsserted (k : AlertKey) : (s.lower k).resetAsserted = s.resetAsserted := rfl
@[simp] theorem State.lower_straps (k : AlertKey) : (s.lower k).straps = s.straps := rfl
@[simp] theorem State.lower_modeControl (k : AlertKey) : (s.lower k).modeControl = s.modeControl := rfl
@[simp] theorem State.lower_tables (k : AlertKey) : (s.lower k).tables = s.tables := rfl
@[simp] theorem State.lower_link (k : AlertKey) : (s.lower k).link = s.link := rfl
@[simp] theorem State.lower_sequencer (k : AlertKey) : (s.lower k).sequencer = s.sequencer := rfl
@[simp] theorem State.lower_stations (k : AlertKey) : (s.lower k).stations = s.stations := rfl
@[simp] theorem State.lower_waiting (k : AlertKey) : (s.lower k).waiting = s.waiting := rfl
@[simp] theorem State.lower_control (k : AlertKey) : (s.lower k).control = s.control := rfl
@[simp] theorem State.lower_limitOrders (k : AlertKey) : (s.lower k).limitOrders = s.limitOrders := rfl
@[simp] theorem State.lower_closures (k : AlertKey) : (s.lower k).closures = s.closures := rfl
@[simp] theorem State.lower_composer (k : AlertKey) : (s.lower k).composer = s.composer := rfl
@[simp] theorem State.lower_centre (k : AlertKey) : (s.lower k).centre = s.centre := rfl
@[simp] theorem State.lower_alerts (k : AlertKey) : (s.lower k).alerts = s.alerts.fall k := rfl
@[simp] theorem State.lower_evaluationsAsked (k : AlertKey) : (s.lower k).evaluationsAsked = s.evaluationsAsked := rfl
@[simp] theorem State.lower_countOwed (k : AlertKey) : (s.lower k).countOwed = s.countOwed := rfl

/-! ### handOver -/

@[simp] theorem State.handOver_pending (r : Request) : (s.handOver r).pending = s.pending := rfl
@[simp] theorem State.handOver_resetAsserted (r : Request) : (s.handOver r).resetAsserted = s.resetAsserted := rfl
@[simp] theorem State.handOver_straps (r : Request) : (s.handOver r).straps = s.straps := rfl
@[simp] theorem State.handOver_modeControl (r : Request) : (s.handOver r).modeControl = s.modeControl := rfl
@[simp] theorem State.handOver_tables (r : Request) : (s.handOver r).tables = s.tables := rfl
@[simp] theorem State.handOver_link (r : Request) : (s.handOver r).link = { s.link with held := some r } := rfl
@[simp] theorem State.handOver_sequencer (r : Request) : (s.handOver r).sequencer = s.sequencer := rfl
@[simp] theorem State.handOver_stations (r : Request) : (s.handOver r).stations = s.stations := rfl
@[simp] theorem State.handOver_waiting (r : Request) : (s.handOver r).waiting = s.waiting := rfl
@[simp] theorem State.handOver_control (r : Request) : (s.handOver r).control = s.control := rfl
@[simp] theorem State.handOver_limitOrders (r : Request) : (s.handOver r).limitOrders = s.limitOrders := rfl
@[simp] theorem State.handOver_closures (r : Request) : (s.handOver r).closures = s.closures := rfl
@[simp] theorem State.handOver_composer (r : Request) : (s.handOver r).composer = s.composer := rfl
@[simp] theorem State.handOver_centre (r : Request) : (s.handOver r).centre = s.centre := rfl
@[simp] theorem State.handOver_alerts (r : Request) : (s.handOver r).alerts = s.alerts := rfl
@[simp] theorem State.handOver_evaluationsAsked (r : Request) : (s.handOver r).evaluationsAsked = s.evaluationsAsked := rfl
@[simp] theorem State.handOver_countOwed (r : Request) : (s.handOver r).countOwed = s.countOwed := rfl

/-! ### setPhase -/

@[simp] theorem State.setPhase_pending (p : LinkPhase) : (s.setPhase p).pending = s.pending := rfl
@[simp] theorem State.setPhase_resetAsserted (p : LinkPhase) : (s.setPhase p).resetAsserted = s.resetAsserted := rfl
@[simp] theorem State.setPhase_straps (p : LinkPhase) : (s.setPhase p).straps = s.straps := rfl
@[simp] theorem State.setPhase_modeControl (p : LinkPhase) : (s.setPhase p).modeControl = s.modeControl := rfl
@[simp] theorem State.setPhase_tables (p : LinkPhase) : (s.setPhase p).tables = s.tables := rfl
@[simp] theorem State.setPhase_link (p : LinkPhase) : (s.setPhase p).link = { s.link with phase := p } := rfl
@[simp] theorem State.setPhase_sequencer (p : LinkPhase) : (s.setPhase p).sequencer = s.sequencer := rfl
@[simp] theorem State.setPhase_stations (p : LinkPhase) : (s.setPhase p).stations = s.stations := rfl
@[simp] theorem State.setPhase_waiting (p : LinkPhase) : (s.setPhase p).waiting = s.waiting := rfl
@[simp] theorem State.setPhase_control (p : LinkPhase) : (s.setPhase p).control = s.control := rfl
@[simp] theorem State.setPhase_limitOrders (p : LinkPhase) : (s.setPhase p).limitOrders = s.limitOrders := rfl
@[simp] theorem State.setPhase_closures (p : LinkPhase) : (s.setPhase p).closures = s.closures := rfl
@[simp] theorem State.setPhase_composer (p : LinkPhase) : (s.setPhase p).composer = s.composer := rfl
@[simp] theorem State.setPhase_centre (p : LinkPhase) : (s.setPhase p).centre = s.centre := rfl
@[simp] theorem State.setPhase_alerts (p : LinkPhase) : (s.setPhase p).alerts = s.alerts := rfl
@[simp] theorem State.setPhase_evaluationsAsked (p : LinkPhase) : (s.setPhase p).evaluationsAsked = s.evaluationsAsked := rfl
@[simp] theorem State.setPhase_countOwed (p : LinkPhase) : (s.setPhase p).countOwed = s.countOwed := rfl

/-! ### stopDriving -/

@[simp] theorem State.stopDriving_pending : (s.stopDriving).pending = s.pending := rfl
@[simp] theorem State.stopDriving_resetAsserted : (s.stopDriving).resetAsserted = s.resetAsserted := rfl
@[simp] theorem State.stopDriving_straps : (s.stopDriving).straps = s.straps := rfl
@[simp] theorem State.stopDriving_modeControl : (s.stopDriving).modeControl = s.modeControl := rfl
@[simp] theorem State.stopDriving_tables : (s.stopDriving).tables = s.tables := rfl
@[simp] theorem State.stopDriving_link : (s.stopDriving).link = { s.link with driverEnable := false, transmitted := [] } := rfl
@[simp] theorem State.stopDriving_sequencer : (s.stopDriving).sequencer = s.sequencer := rfl
@[simp] theorem State.stopDriving_stations : (s.stopDriving).stations = s.stations := rfl
@[simp] theorem State.stopDriving_waiting : (s.stopDriving).waiting = s.waiting := rfl
@[simp] theorem State.stopDriving_control : (s.stopDriving).control = s.control := rfl
@[simp] theorem State.stopDriving_limitOrders : (s.stopDriving).limitOrders = s.limitOrders := rfl
@[simp] theorem State.stopDriving_closures : (s.stopDriving).closures = s.closures := rfl
@[simp] theorem State.stopDriving_composer : (s.stopDriving).composer = s.composer := rfl
@[simp] theorem State.stopDriving_centre : (s.stopDriving).centre = s.centre := rfl
@[simp] theorem State.stopDriving_alerts : (s.stopDriving).alerts = s.alerts := rfl
@[simp] theorem State.stopDriving_evaluationsAsked : (s.stopDriving).evaluationsAsked = s.evaluationsAsked := rfl
@[simp] theorem State.stopDriving_countOwed : (s.stopDriving).countOwed = s.countOwed := rfl

/-! ### setReceiving -/

@[simp] theorem State.setReceiving_pending (p : Path) (a : Option Arrival) : (s.setReceiving p a).pending = s.pending := rfl
@[simp] theorem State.setReceiving_resetAsserted (p : Path) (a : Option Arrival) : (s.setReceiving p a).resetAsserted = s.resetAsserted := rfl
@[simp] theorem State.setReceiving_straps (p : Path) (a : Option Arrival) : (s.setReceiving p a).straps = s.straps := rfl
@[simp] theorem State.setReceiving_modeControl (p : Path) (a : Option Arrival) : (s.setReceiving p a).modeControl = s.modeControl := rfl
@[simp] theorem State.setReceiving_tables (p : Path) (a : Option Arrival) : (s.setReceiving p a).tables = s.tables := rfl
@[simp] theorem State.setReceiving_link (p : Path) (a : Option Arrival) : (s.setReceiving p a).link = { s.link with receiving := s.link.receiving.set p a } := rfl
@[simp] theorem State.setReceiving_sequencer (p : Path) (a : Option Arrival) : (s.setReceiving p a).sequencer = s.sequencer := rfl
@[simp] theorem State.setReceiving_stations (p : Path) (a : Option Arrival) : (s.setReceiving p a).stations = s.stations := rfl
@[simp] theorem State.setReceiving_waiting (p : Path) (a : Option Arrival) : (s.setReceiving p a).waiting = s.waiting := rfl
@[simp] theorem State.setReceiving_control (p : Path) (a : Option Arrival) : (s.setReceiving p a).control = s.control := rfl
@[simp] theorem State.setReceiving_limitOrders (p : Path) (a : Option Arrival) : (s.setReceiving p a).limitOrders = s.limitOrders := rfl
@[simp] theorem State.setReceiving_closures (p : Path) (a : Option Arrival) : (s.setReceiving p a).closures = s.closures := rfl
@[simp] theorem State.setReceiving_composer (p : Path) (a : Option Arrival) : (s.setReceiving p a).composer = s.composer := rfl
@[simp] theorem State.setReceiving_centre (p : Path) (a : Option Arrival) : (s.setReceiving p a).centre = s.centre := rfl
@[simp] theorem State.setReceiving_alerts (p : Path) (a : Option Arrival) : (s.setReceiving p a).alerts = s.alerts := rfl
@[simp] theorem State.setReceiving_evaluationsAsked (p : Path) (a : Option Arrival) : (s.setReceiving p a).evaluationsAsked = s.evaluationsAsked := rfl
@[simp] theorem State.setReceiving_countOwed (p : Path) (a : Option Arrival) : (s.setReceiving p a).countOwed = s.countOwed := rfl

/-! ### dequeue -/

@[simp] theorem State.dequeue_pending (g : Nat) : (s.dequeue g).pending = s.pending := rfl
@[simp] theorem State.dequeue_resetAsserted (g : Nat) : (s.dequeue g).resetAsserted = s.resetAsserted := rfl
@[simp] theorem State.dequeue_straps (g : Nat) : (s.dequeue g).straps = s.straps := rfl
@[simp] theorem State.dequeue_modeControl (g : Nat) : (s.dequeue g).modeControl = s.modeControl := rfl
@[simp] theorem State.dequeue_tables (g : Nat) : (s.dequeue g).tables = s.tables := rfl
@[simp] theorem State.dequeue_link (g : Nat) : (s.dequeue g).link = s.link := rfl
@[simp] theorem State.dequeue_sequencer (g : Nat) : (s.dequeue g).sequencer = s.sequencer := rfl
@[simp] theorem State.dequeue_stations (g : Nat) : (s.dequeue g).stations = s.stations := rfl
@[simp] theorem State.dequeue_waiting (g : Nat) : (s.dequeue g).waiting = s.waiting := rfl
@[simp] theorem State.dequeue_control (g : Nat) : (s.dequeue g).control = s.control := rfl
@[simp] theorem State.dequeue_limitOrders (g : Nat) : (s.dequeue g).limitOrders = s.limitOrders := rfl
@[simp] theorem State.dequeue_closures (g : Nat) : (s.dequeue g).closures = s.closures := rfl
@[simp] theorem State.dequeue_composer (g : Nat) : (s.dequeue g).composer = { s.composer with queue := s.composer.queue.filter (fun e => decide (e.gantry ≠ g)) } := rfl
@[simp] theorem State.dequeue_centre (g : Nat) : (s.dequeue g).centre = s.centre := rfl
@[simp] theorem State.dequeue_alerts (g : Nat) : (s.dequeue g).alerts = s.alerts := rfl
@[simp] theorem State.dequeue_evaluationsAsked (g : Nat) : (s.dequeue g).evaluationsAsked = s.evaluationsAsked := rfl
@[simp] theorem State.dequeue_countOwed (g : Nat) : (s.dequeue g).countOwed = s.countOwed := rfl

/-! ### dropCarried -/

@[simp] theorem State.dropCarried_pending : (s.dropCarried).pending = s.pending := rfl
@[simp] theorem State.dropCarried_resetAsserted : (s.dropCarried).resetAsserted = s.resetAsserted := rfl
@[simp] theorem State.dropCarried_straps : (s.dropCarried).straps = s.straps := rfl
@[simp] theorem State.dropCarried_modeControl : (s.dropCarried).modeControl = s.modeControl := rfl
@[simp] theorem State.dropCarried_tables : (s.dropCarried).tables = s.tables := rfl
@[simp] theorem State.dropCarried_link : (s.dropCarried).link = s.link := rfl
@[simp] theorem State.dropCarried_sequencer : (s.dropCarried).sequencer = s.sequencer := rfl
@[simp] theorem State.dropCarried_stations : (s.dropCarried).stations = s.stations := rfl
@[simp] theorem State.dropCarried_waiting : (s.dropCarried).waiting = s.waiting := rfl
@[simp] theorem State.dropCarried_control : (s.dropCarried).control = s.control := rfl
@[simp] theorem State.dropCarried_limitOrders : (s.dropCarried).limitOrders = s.limitOrders := rfl
@[simp] theorem State.dropCarried_closures : (s.dropCarried).closures = s.closures := rfl
@[simp] theorem State.dropCarried_composer : (s.dropCarried).composer = s.composer := rfl
@[simp] theorem State.dropCarried_centre : (s.dropCarried).centre = { s.centre with carried := none, unsettled := none } := rfl
@[simp] theorem State.dropCarried_alerts : (s.dropCarried).alerts = s.alerts := rfl
@[simp] theorem State.dropCarried_evaluationsAsked : (s.dropCarried).evaluationsAsked = s.evaluationsAsked := rfl
@[simp] theorem State.dropCarried_countOwed : (s.dropCarried).countOwed = s.countOwed := rfl

/-! ### endRound -/

@[simp] theorem State.endRound_pending : (s.endRound).pending = s.pending := rfl
@[simp] theorem State.endRound_resetAsserted : (s.endRound).resetAsserted = s.resetAsserted := rfl
@[simp] theorem State.endRound_straps : (s.endRound).straps = s.straps := rfl
@[simp] theorem State.endRound_modeControl : (s.endRound).modeControl = s.modeControl := rfl
@[simp] theorem State.endRound_tables : (s.endRound).tables = s.tables := rfl
@[simp] theorem State.endRound_link : (s.endRound).link = s.link := rfl
@[simp] theorem State.endRound_sequencer : (s.endRound).sequencer = s.sequencer := rfl
@[simp] theorem State.endRound_stations : (s.endRound).stations = s.stations := rfl
@[simp] theorem State.endRound_waiting : (s.endRound).waiting = s.waiting := rfl
@[simp] theorem State.endRound_control : (s.endRound).control = s.control := rfl
@[simp] theorem State.endRound_limitOrders : (s.endRound).limitOrders = s.limitOrders := rfl
@[simp] theorem State.endRound_closures : (s.endRound).closures = s.closures := rfl
@[simp] theorem State.endRound_composer : (s.endRound).composer = s.composer := rfl
@[simp] theorem State.endRound_centre : (s.endRound).centre = { s.centre with round := none } := rfl
@[simp] theorem State.endRound_alerts : (s.endRound).alerts = s.alerts := rfl
@[simp] theorem State.endRound_evaluationsAsked : (s.endRound).evaluationsAsked = s.evaluationsAsked := rfl
@[simp] theorem State.endRound_countOwed : (s.endRound).countOwed = s.countOwed := rfl

end Sys2Proof.Machine
end

