-- ==== Sys2Proof/Laws/Frames.lean ====
section
/-! SUPPORT. What each shared operation can change: one lemma per operation, naming the parts of the state it
touches. Every other part is as before: apply the lemma to the part, and `by decide` that it is not named. -/

namespace Sys2Proof.Machine

/-- The parts of the state: its fields. -/
inductive Part where
  | pending | resetAsserted | straps | modeControl | tables | link | sequencer | stations | waiting | control
  | limitOrders | closures | composer | centre | alerts | evaluationsAsked | countOwed
  deriving DecidableEq, Repr

/-- Two states agree in a part. -/
def State.agree (s t : State) : Part → Prop
  | .pending => t.pending = s.pending
  | .resetAsserted => t.resetAsserted = s.resetAsserted
  | .straps => t.straps = s.straps
  | .modeControl => t.modeControl = s.modeControl
  | .tables => t.tables = s.tables
  | .link => t.link = s.link
  | .sequencer => t.sequencer = s.sequencer
  | .stations => t.stations = s.stations
  | .waiting => t.waiting = s.waiting
  | .control => t.control = s.control
  | .limitOrders => t.limitOrders = s.limitOrders
  | .closures => t.closures = s.closures
  | .composer => t.composer = s.composer
  | .centre => t.centre = s.centre
  | .alerts => t.alerts = s.alerts
  | .evaluationsAsked => t.evaluationsAsked = s.evaluationsAsked
  | .countOwed => t.countOwed = s.countOwed

/-- From `s` to `t` only the parts `ps` may have changed. -/
def Touches (ps : List Part) (s t : State) : Prop := ∀ p, p ∉ ps → s.agree t p

theorem State.agree_refl (s : State) (p : Part) : s.agree s p := by cases p <;> rfl

theorem State.agree_trans {s t u : State} {p : Part} (h : s.agree t p) (k : t.agree u p) : s.agree u p := by
  cases p <;> exact Eq.trans k h

theorem Touches.refl (ps : List Part) (s : State) : Touches ps s s := fun p _ => s.agree_refl p

theorem Touches.mono {ps qs : List Part} {s t : State} (h : Touches ps s t) (k : ∀ p ∈ ps, p ∈ qs) :
    Touches qs s t := fun p hp => h p (fun hq => hp (k p hq))

/-- Two operations after each other touch what either touches. -/
theorem Touches.trans {ps : List Part} {s t u : State} (h : Touches ps s t) (k : Touches ps t u) :
    Touches ps s u := fun p hp => State.agree_trans (h p hp) (k p hp)

/-- A list of operations of one kind touches what each touches. -/
theorem Touches.foldl {α : Type} {ps : List Part} {f : State → α → State} (h : ∀ s x, Touches ps s (f s x)) :
    ∀ (xs : List α) (s : State), Touches ps s (xs.foldl f s)
  | [], s => .refl ps s
  | x :: xs, s => (h s x).trans (Touches.foldl h xs (f s x))

/-- A choice between two states touches what either touches. -/
theorem Touches.ite {ps : List Part} {s t u : State} {c : Prop} [Decidable c] (h : Touches ps s t)
    (k : Touches ps s u) : Touches ps s (if c then t else u) := by split <;> assumption

/-- Two states that agree in every part are equal. -/
theorem State.ext_agree {s t : State} (h : ∀ p, s.agree t p) : t = s := by
  cases s; cases t
  simp only [State.mk.injEq]
  exact ⟨h .pending, h .resetAsserted, h .straps, h .modeControl, h .tables, h .link, h .sequencer, h .stations, h .waiting, h .control, h .limitOrders, h .closures, h .composer, h .centre, h .alerts, h .evaluationsAsked, h .countOwed⟩

/-- A state that differs from another in named parts alone is that other with those parts replaced. -/
theorem Touches.rebuild {ps : List Part} {s t : State} (h : Touches ps s t) : t =
    { pending := if Part.pending ∈ ps then t.pending else s.pending,
      resetAsserted := if Part.resetAsserted ∈ ps then t.resetAsserted else s.resetAsserted,
      straps := if Part.straps ∈ ps then t.straps else s.straps,
      modeControl := if Part.modeControl ∈ ps then t.modeControl else s.modeControl,
      tables := if Part.tables ∈ ps then t.tables else s.tables,
      link := if Part.link ∈ ps then t.link else s.link,
      sequencer := if Part.sequencer ∈ ps then t.sequencer else s.sequencer,
      stations := if Part.stations ∈ ps then t.stations else s.stations,
      waiting := if Part.waiting ∈ ps then t.waiting else s.waiting,
      control := if Part.control ∈ ps then t.control else s.control,
      limitOrders := if Part.limitOrders ∈ ps then t.limitOrders else s.limitOrders,
      closures := if Part.closures ∈ ps then t.closures else s.closures,
      composer := if Part.composer ∈ ps then t.composer else s.composer,
      centre := if Part.centre ∈ ps then t.centre else s.centre,
      alerts := if Part.alerts ∈ ps then t.alerts else s.alerts,
      evaluationsAsked := if Part.evaluationsAsked ∈ ps then t.evaluationsAsked else s.evaluationsAsked,
      countOwed := if Part.countOwed ∈ ps then t.countOwed else s.countOwed } := by
  apply State.ext_agree
  intro p
  by_cases hp : p ∈ ps
  · cases p <;> simp only [State.agree, if_pos hp]
  · have k := h p hp
    cases p <;> simp only [State.agree, if_neg hp] at k ⊢ <;> exact k

section fields
variable (s : State)

theorem touches_modeControl (x : ModeControl) : Touches [.modeControl] s { s with modeControl := x } := by
  intro p hp; cases p <;> first | rfl | simp at hp
theorem touches_tables (x : Tables) : Touches [.tables] s { s with tables := x } := by
  intro p hp; cases p <;> first | rfl | simp at hp
theorem touches_link (x : Link) : Touches [.link] s { s with link := x } := by
  intro p hp; cases p <;> first | rfl | simp at hp
theorem touches_sequencer (x : Sequencer) : Touches [.sequencer] s { s with sequencer := x } := by
  intro p hp; cases p <;> first | rfl | simp at hp
theorem touches_stations (x : List StationRec) : Touches [.stations] s { s with stations := x } := by
  intro p hp; cases p <;> first | rfl | simp at hp
theorem touches_waiting (x : List InjectionResult) : Touches [.waiting] s { s with waiting := x } := by
  intro p hp; cases p <;> first | rfl | simp at hp
theorem touches_control (x : List GantryControl) : Touches [.control] s { s with control := x } := by
  intro p hp; cases p <;> first | rfl | simp at hp
theorem touches_limitOrders (x : List LimitOrder) : Touches [.limitOrders] s { s with limitOrders := x } := by
  intro p hp; cases p <;> first | rfl | simp at hp
theorem touches_closures (x : ClosureUnit) : Touches [.closures] s { s with closures := x } := by
  intro p hp; cases p <;> first | rfl | simp at hp
theorem touches_composer (x : Composer) : Touches [.composer] s { s with composer := x } := by
  intro p hp; cases p <;> first | rfl | simp at hp
theorem touches_centre (x : Centre) : Touches [.centre] s { s with centre := x } := by
  intro p hp; cases p <;> first | rfl | simp at hp
theorem touches_alerts (x : AlertUnit) : Touches [.alerts] s { s with alerts := x } := by
  intro p hp; cases p <;> first | rfl | simp at hp
theorem touches_evaluationsAsked (x : Nat) : Touches [.evaluationsAsked] s { s with evaluationsAsked := x } := by
  intro p hp; cases p <;> first | rfl | simp at hp
theorem touches_countOwed (x : Option Nat) : Touches [.countOwed] s { s with countOwed := x } := by
  intro p hp; cases p <;> first | rfl | simp at hp

/-! ## The Alert Unit and the Report Queue -/

theorem State.raise_touches (k : AlertKey) : Touches [.alerts] s (s.raise k) := touches_alerts s _
theorem State.lower_touches (k : AlertKey) : Touches [.alerts] s (s.lower k) := touches_alerts s _
theorem State.reportChange_touches (k : AlertKey) (a b : Bool) : Touches [.alerts] s (s.reportChange k a b) := by
  cases a <;> cases b <;> first | exact .refl _ _ | exact touches_alerts s _
theorem State.reportAll_touches (falls rises : List AlertKey) : Touches [.alerts] s (s.reportAll falls rises) :=
  (Touches.foldl (fun t k => t.lower_touches k) falls s).trans
    (Touches.foldl (fun (t : State) k => t.raise_touches k) rises _)
theorem State.lowerTableBound_touches : Touches [.alerts] s s.lowerTableBound :=
  Touches.foldl (fun t k => t.lower_touches k) _ s
theorem State.linkExceptionEvent_touches : Touches [.alerts, .link] s s.linkExceptionEvent := by
  intro p hp; cases p <;> first | rfl | simp at hp
theorem State.settleFreeze_touches : Touches [.link] s s.settleFreeze := touches_link s _
theorem State.offerReport_touches (b : ReportBody) : Touches [.centre] s (s.offerReport b) := by
  unfold State.offerReport; split
  · exact touches_centre s _
  · exact .refl _ _
theorem State.offerResult_touches (r : InjectionResult) : Touches [.centre, .waiting] s (s.offerResult r) := by
  unfold State.offerResult; split
  · exact (s.offerReport_touches _).mono (by decide)
  · exact (touches_waiting s _).mono (by decide)
theorem offerFrom_touches (rs : List InjectionResult) (s : State) : Touches [.centre, .waiting] s (offerFrom rs s) := by
  induction rs generalizing s with
  | nil => exact (touches_waiting s _).mono (by decide)
  | cons r rs ih =>
    unfold offerFrom; split
    · exact ((s.offerReport_touches _).mono (by decide)).trans (ih _)
    · exact (touches_waiting s _).mono (by decide)
theorem State.offerWaiting_touches : Touches [.centre, .waiting] s s.offerWaiting := offerFrom_touches _ s
theorem State.departReport_touches (n : Nat) : Touches [.centre, .waiting] s (s.departReport n) := by
  unfold State.departReport; split
  · exact ((touches_centre s _).mono (by decide)).trans (State.offerWaiting_touches _)
  · exact .refl _ _
theorem State.advanceOffset_touches (n o : Nat) : Touches [.centre] s (s.advanceOffset n o) := touches_centre s _

/-! ## Passes and the single records -/

theorem State.requestPass_touches (h : Nat) : Touches [.composer] s (s.requestPass h) := by
  unfold State.requestPass; split
  · exact touches_composer s _
  · exact .refl _ _
theorem State.setStation_touches (n : Nat) (r : StationRec) : Touches [.stations] s (s.setStation n r) :=
  touches_stations s _
theorem State.setControl_touches (g : Nat) (c : GantryControl) : Touches [.control] s (s.setControl g c) :=
  touches_control s _
theorem State.setDelivery_touches (g : Nat) (d : DeliveryRec) : Touches [.composer] s (s.setDelivery g d) :=
  touches_composer s _
theorem State.setShoulder_touches (g : Nat) (x : ShoulderState) : Touches [.closures] s (s.setShoulder g x) :=
  touches_closures s _
theorem State.setRegister_touches (r : List Closure) : Touches [.closures] s (s.setRegister r) := touches_closures s _
theorem State.setMode_touches (m : Mode) : Touches [.modeControl] s (s.setMode m) := touches_modeControl s _
theorem State.setPhase_touches (p : LinkPhase) : Touches [.link] s (s.setPhase p) := touches_link s _
theorem State.handOver_touches (r : Request) : Touches [.link] s (s.handOver r) := touches_link s _
theorem State.setReceiving_touches (p : Path) (a : Option Arrival) : Touches [.link] s (s.setReceiving p a) :=
  touches_link s _
theorem State.stopDriving_touches : Touches [.link] s s.stopDriving := touches_link s _

/-! ## Measurement -/

theorem State.reportHealth_touches (n : Nat) (c : List (Nat × Health × Health)) :
    Touches [.alerts] s (s.reportHealth n c) := s.reportAll_touches _ _
theorem State.supervise_touches (n : Nat) : Touches [.stations, .alerts, .centre, .waiting] s (s.supervise n) :=
  (((s.setStation_touches n _).mono (by decide)).trans ((State.reportHealth_touches _ _ _).mono (by decide))).trans
    ((Touches.foldl (fun t r => t.offerResult_touches r) _ _).mono (by decide))
theorem State.clearLane_touches (n l : Nat) : Touches [.stations, .alerts] s (s.clearLane n l) :=
  ((s.setStation_touches n _).mono (by decide)).trans ((State.reportHealth_touches _ _ _).mono (by decide))
theorem State.startRun_touches (n l : Nat) (v : LaneValues) (k : Nat) : Touches [.stations] s (s.startRun n l v k) :=
  s.setStation_touches n _
theorem State.take_touches (n : Nat) (v : List LaneValues) :
    Touches [.stations, .alerts, .centre, .waiting] s (s.take n v) :=
  ((((s.setStation_touches n _).mono (by decide)).trans (State.supervise_touches _ n)).trans
    ((State.setStation_touches _ n _).mono (by decide))).trans ((State.reportChange_touches _ _ _ _).mono (by decide))
theorem State.notePoll_touches (n : Nat) (p : PollResult) (r : Option Reply) : Touches [.stations] s (s.notePoll n p r) :=
  s.setStation_touches n _
theorem State.judgeOpen_touches (n : Nat) (r : Option Reply) :
    Touches [.stations, .alerts, .centre, .waiting] s (s.judgeOpen n r) := by
  have note (p : PollResult) (r : Option Reply) :
      Touches [.stations, .alerts, .centre, .waiting] s (s.notePoll n p r) := (s.notePoll_touches n p r).mono (by decide)
  unfold State.judgeOpen
  split
  · exact note _ _
  · split
    · exact note _ _
    · split
      · exact note _ _
      · exact note _ _
      · split
        · exact note _ _
        · split
          · exact note _ _
          · exact (note _ _).trans (State.take_touches _ n _)
theorem State.judgeIvr_touches (a : Nat) (r : Option Reply) :
    Touches [.stations, .alerts, .centre, .waiting] s (s.judgeIvr a r) := by
  unfold State.judgeIvr
  split
  · exact .refl _ _
  · split
    · exact .refl _ _
    · split
      · exact s.judgeOpen_touches _ r
      · exact (s.setStation_touches _ _).mono (by decide)
theorem State.openInterval_touches : Touches [.stations] s s.openInterval := touches_stations s _
theorem State.closeReduction_touches : Touches [.stations, .alerts, .evaluationsAsked] s s.closeReduction := by
  unfold State.closeReduction
  have h := ((touches_stations s (s.stations.mapIdx (fun i r =>
    if i < s.stationCount then r.close i s.sequencer.interval (s.tables.station i) else r))).mono
      (qs := [.stations, .alerts, .evaluationsAsked]) (by decide))
  have k := h.trans ((Touches.foldl (ps := [.alerts])
    (f := fun (t : State) (i : Nat) => t.reportChange (alertKey .stationLost i)
      ((s.stationRec i).lost (s.tables.station i))
      ((State.stationRec { s with stations := s.stations.mapIdx (fun i r =>
        if i < s.stationCount then r.close i s.sequencer.interval (s.tables.station i) else r) } i).lost
          (s.tables.station i)))
    (fun t i => t.reportChange_touches _ _ _) (List.range s.stationCount) _).mono (by decide))
  exact Touches.ite (k.trans ((touches_evaluationsAsked _ _).mono (by decide))) k
theorem State.emptyRecords_touches : Touches [.stations, .waiting] s s.emptyRecords := by
  intro p hp; cases p <;> first | rfl | simp at hp

/-! ## Speed Control -/

theorem State.evaluateBands_touches : Touches [.control, .alerts, .composer] s s.evaluateBands :=
  (((touches_control s _).mono (by decide)).trans ((State.reportAll_touches _ _ _).mono (by decide))).trans
    ((State.requestPass_touches _ _).mono (by decide))
theorem State.settleDemand_touches (g : Nat) (c : List Nat) : Touches [.control] s (s.settleDemand g c) :=
  s.setControl_touches g _
theorem State.expireDwell_touches (g : Nat) : Touches [.control, .composer] s (s.expireDwell g) :=
  Touches.ite (((s.setControl_touches g _).mono (by decide)).trans ((State.requestPass_touches _ _).mono (by decide)))
    ((s.setControl_touches g _).mono (by decide))
theorem State.limitSet_touches (id f l r : Nat) (g : Option Legend) :
    Touches [.limitOrders, .composer] s (s.limitSet id f l r g).1 := by
  unfold State.limitSet
  split
  · exact .refl _ _
  · split
    · exact .refl _ _
    · split
      · exact .refl _ _
      · split
        · exact .refl _ _
        · split
          · exact .refl _ _
          · exact ((touches_limitOrders s _).mono (by decide)).trans ((State.requestPass_touches _ _).mono (by decide))
theorem State.clearLimit_touches (id : Nat) : Touches [.limitOrders, .composer] s (s.clearLimit id).1 := by
  unfold State.clearLimit
  split
  · exact .refl _ _
  · exact ((touches_limitOrders s _).mono (by decide)).trans ((State.requestPass_touches _ _).mono (by decide))
theorem State.resetSpeed_touches : Touches [.control, .limitOrders] s s.resetSpeed := by
  intro p hp; cases p <;> first | rfl | simp at hp
theorem State.stopDemands_touches : Touches [.control] s s.stopDemands := touches_control s _

/-! ## The Closure Unit -/

theorem State.closeRoad_touches (id site : Nat) (ls : Option (List Nat)) (r : Nat) :
    Touches [.closures, .composer] s (s.closeRoad id site ls r).1 := by
  unfold State.closeRoad
  split
  · exact .refl _ _
  · split
    · exact .refl _ _
    · split
      · exact .refl _ _
      · split
        · exact .refl _ _
        · split
          · exact .refl _ _
          · dsimp only; split
            · exact .refl _ _
            · exact ((touches_closures s _).mono (by decide)).trans ((State.requestPass_touches _ _).mono (by decide))
theorem State.settleSites_touches (g : Nat) : Touches [.closures, .alerts] s (s.settleSites g) :=
  ((s.setRegister_touches _).mono (by decide)).trans ((State.reportAll_touches _ _ _).mono (by decide))
theorem State.changeRegister_touches (r : List Closure) : Touches [.closures, .alerts] s (s.changeRegister r) :=
  ((s.setRegister_touches _).mono (by decide)).trans ((State.reportAll_touches _ _ _).mono (by decide))
theorem State.startOpening_touches (id f l : Nat) :
    Touches [.closures, .alerts, .composer] s (s.startOpening id f l) :=
  (((s.changeRegister_touches _).mono (by decide)).trans ((State.setShoulder_touches _ _ _).mono (by decide))).trans
    ((State.requestPass_touches _ _).mono (by decide))
theorem State.shoulderOpen_touches (id f l : Nat) (a : Bool) :
    Touches [.closures, .alerts, .composer] s (s.shoulderOpen id f l a).1 := by
  unfold State.shoulderOpen
  repeat' split
  all_goals first | exact .refl _ _ | exact s.startOpening_touches id f l
theorem State.stepOpening_touches (n : Nat) (o : ShoulderOrder) (g : Nat) :
    Touches [.closures, .alerts, .composer] s (s.stepOpening n o g) :=
  Touches.ite ((s.changeRegister_touches _).mono (by decide))
    ((((s.changeRegister_touches _).mono (by decide)).trans ((State.setShoulder_touches _ _ _).mono (by decide))).trans
      ((State.requestPass_touches _ _).mono (by decide)))
theorem State.moveClosing_touches (n : Nat) (o : ShoulderOrder) (f : Nat) :
    Touches [.closures, .alerts, .composer] s (s.moveClosing n o f) :=
  (((s.changeRegister_touches _).mono (by decide)).trans ((State.setShoulder_touches _ _ _).mono (by decide))).trans
    ((State.requestPass_touches _ _).mono (by decide))
theorem State.readConfirmation_touches (g : Nat) : Touches [.closures, .alerts, .composer] s (s.readConfirmation g) := by
  unfold State.readConfirmation
  repeat' split
  all_goals first
    | exact .refl _ _
    | exact s.stepOpening_touches _ _ _
    | exact (s.setRegister_touches _).mono (by decide)
theorem State.readDeliveryChange_touches (g : Nat) :
    Touches [.closures, .alerts, .composer] s (s.readDeliveryChange g) := by
  unfold State.readDeliveryChange
  repeat' split
  all_goals first
    | exact .refl _ _
    | exact (s.changeRegister_touches _).mono (by decide)
    | exact (s.setRegister_touches _).mono (by decide)
theorem State.requestSites_touches (g : Nat) : Touches [.composer] s (s.requestSites g) :=
  Touches.foldl (f := fun (t : State) (c : RoadClosure) => t.requestPass c.site)
    (fun t c => t.requestPass_touches c.site) _ s
theorem State.expireHold_touches (n : Nat) : Touches [.closures, .alerts, .composer] s (s.expireHold n) := by
  unfold State.expireHold
  split
  · split
    · dsimp only; split
      · exact ((s.setShoulder_touches _ _).mono (by decide)).trans (State.moveClosing_touches _ _ _ _)
      · exact (((s.setShoulder_touches _ _).mono (by decide)).trans ((State.setRegister_touches _ _).mono (by decide))).trans
          ((State.requestPass_touches _ _).mono (by decide))
    · exact .refl _ _
  · exact .refl _ _
theorem State.clearRoad_touches (c : Closure) (r : RoadClosure) :
    Touches [.closures, .alerts, .composer] s (s.clearRoad c r).1 :=
  (((touches_closures s _).mono (by decide)).trans ((State.reportChange_touches _ _ _ _).mono (by decide))).trans
    ((State.requestPass_touches _ _).mono (by decide))
theorem State.clearShoulder_touches (c : Closure) (o : ShoulderOrder) :
    Touches [.closures, .alerts, .composer] s (s.clearShoulder c o).1 := by
  unfold State.clearShoulder
  repeat' split
  all_goals first | exact .refl _ _ | exact s.moveClosing_touches _ _ _
theorem State.orderClear_touches (id : Nat) :
    Touches [.limitOrders, .closures, .alerts, .composer] s (s.orderClear id).1 := by
  unfold State.orderClear
  split
  · split
    · exact (s.clearRoad_touches _ _).mono (by decide)
    · exact (s.clearShoulder_touches _ _).mono (by decide)
  · exact (s.clearLimit_touches id).mono (by decide)
theorem State.resetClosures_touches : Touches [.closures] s s.resetClosures := touches_closures s _

/-! ## Aspect Composition and Sign Delivery -/

theorem State.place_touches (g : Nat) (c : EntryClass) : Touches [.composer] s (s.place g c) := touches_composer s _
theorem State.dequeue_touches (g : Nat) : Touches [.composer] s (s.dequeue g) := touches_composer s _
theorem State.placeVisited_touches (g : Nat) : Touches [.composer] s (s.placeVisited g) := by
  have h : Touches [.composer] s (if s.demandUnsent g then s.place g (s.placementClass g) else s) :=
    Touches.ite (s.place_touches _ _) (.refl _ _)
  exact Touches.ite (h.trans (State.place_touches _ _ _)) h
theorem State.visit_touches (g : Nat) : Touches [.closures, .alerts, .control, .composer] s (s.visit g) :=
  (((((s.settleSites_touches g).mono (by decide)).trans ((State.settleDemand_touches _ g _).mono (by decide))).trans
    ((State.setDelivery_touches _ g _).mono (by decide))).trans ((State.placeVisited_touches _ g).mono (by decide))).trans
    ((touches_composer _ _).mono (by decide))
theorem State.handOn_touches (g : Nat) (old : DeliveryRec) (b : Bool) :
    Touches [.closures, .alerts, .composer, .centre] s (s.handOn g old b) := by
  unfold State.handOn
  have h1 (c : Bool) : Touches [.closures, .alerts, .composer, .centre] s (if c then s.readDeliveryChange g else s) :=
    Touches.ite ((s.readDeliveryChange_touches g).mono (by decide)) (.refl _ _)
  have h2 (c d : Bool) : Touches [.closures, .alerts, .composer, .centre] s
      (if d then ((if c then s.readDeliveryChange g else s).requestSites g).requestPass g else s) :=
    Touches.ite (((h1 c).trans ((State.requestSites_touches _ g).mono (by decide))).trans
      ((State.requestPass_touches _ g).mono (by decide))) (.refl _ _)
  have h3 (t : State) (e : Bool) (h : Touches [.closures, .alerts, .composer, .centre] s t) :
      Touches [.closures, .alerts, .composer, .centre] s (if e then t.readConfirmation g else t) :=
    Touches.ite (h.trans ((t.readConfirmation_touches g).mono (by decide))) h
  have h4 (t : State) (k : AlertKey) (a b : Bool) (h : Touches [.closures, .alerts, .composer, .centre] s t) :
      Touches [.closures, .alerts, .composer, .centre] s (t.reportChange k a b) :=
    h.trans ((t.reportChange_touches _ _ _).mono (by decide))
  exact Touches.ite ((h4 _ _ _ _ (h3 _ _ (h2 _ _))).trans ((State.offerReport_touches _ _).mono (by decide)))
    (h4 _ _ _ _ (h3 _ _ (h2 _ _)))
theorem State.enterLocal_touches (g : Nat) (d : DriverStatus) (l : Option (List Displayed)) :
    Touches [.composer] s (s.enterLocal g d l) := (s.setDelivery_touches g _).trans (State.dequeue_touches _ g)
theorem State.failAttempt_touches (g : Nat) (b : Bool) : Touches [.composer] s (s.failAttempt g b) := by
  unfold State.failAttempt
  dsimp only
  split
  · split
    · exact (s.setDelivery_touches g _).trans (State.dequeue_touches _ g)
    · exact Touches.ite ((s.setDelivery_touches g _).trans (State.place_touches _ g _)) (s.setDelivery_touches g _)
  · exact .refl _ _
theorem State.judgeLanes_touches (g : Nat) (d : DriverStatus) (l : List Displayed) (b : Bool) :
    Touches [.composer] s (s.judgeLanes g d l b) :=
  Touches.ite (s.setDelivery_touches g _) ((s.setDelivery_touches g _).trans (State.failAttempt_touches _ g b))
theorem State.judgeSgs_touches (g : Nat) (r : Option Reply) (b : Bool) :
    Touches [.closures, .alerts, .composer, .centre] s (s.judgeSgs g r b) := by
  unfold State.judgeSgs
  have hand (t : State) (o : DeliveryRec) (x : Bool) (h : Touches [.composer] s t) :
      Touches [.closures, .alerts, .composer, .centre] s (t.handOn g o x) :=
    (h.mono (by decide)).trans (t.handOn_touches g o x)
  repeat' (first | split | dsimp only)
  all_goals first
    | exact hand _ _ _ (s.failAttempt_touches g b)
    | exact hand _ _ _ (s.enterLocal_touches g _ _)
    | exact hand _ _ _ ((s.setDelivery_touches g _).trans (State.failAttempt_touches _ g b))
    | exact hand _ _ _ (s.judgeLanes_touches g _ _ b)
theorem State.placeQueried_touches (g : Nat) (o : DeliveryRec) (l : List Displayed) :
    Touches [.composer] s (s.placeQueried g o l) := by
  unfold State.placeQueried
  split
  · exact .refl _ _
  · exact Touches.ite (s.place_touches g _) (.refl _ _)
theorem State.judgeSgq_touches (g : Nat) (r : Option Reply) :
    Touches [.closures, .alerts, .composer, .centre] s (s.judgeSgq g r) := by
  unfold State.judgeSgq
  have hand (t : State) (o : DeliveryRec) (x : Bool) (h : Touches [.composer] s t) :
      Touches [.closures, .alerts, .composer, .centre] s (t.handOn g o x) :=
    (h.mono (by decide)).trans (t.handOn_touches g o x)
  repeat' (first | split | dsimp only)
  all_goals first
    | exact .refl _ _
    | exact hand _ _ _ (s.enterLocal_touches g _ _)
    | exact hand _ _ _ ((s.setDelivery_touches g _).trans (State.placeQueried_touches _ g _ _))
theorem State.judgeSign_touches (q : Request) (r : Option Reply) :
    Touches [.closures, .alerts, .composer, .centre] s (s.judgeSign q r) := by
  unfold State.judgeSign
  split
  · exact .refl _ _
  · split
    · exact .refl _ _
    · exact Touches.ite (s.judgeSgs_touches _ _ _) (s.judgeSgq_touches _ _)
theorem State.rotate_touches : Touches [.composer] s s.rotate := touches_composer s _
theorem State.reachRefresh_touches (g : Nat) : Touches [.composer] s (s.reachRefresh g) := by
  unfold State.reachRefresh
  dsimp only
  split
  · exact .refl _ _
  · exact Touches.ite ((s.setDelivery_touches g _).trans (State.place_touches _ g _)) (s.setDelivery_touches g _)
theorem State.clearDemands_touches : Touches [.composer] s s.clearDemands := touches_composer s _
theorem State.resetComposer_touches : Touches [.composer] s s.resetComposer := touches_composer s _

end fields

end Sys2Proof.Machine
end

