-- ==== Sys2Proof/Laws/Events.lean ====
section
/-! SUPPORT. What the operations of the link, the modes, the orders and the centre exchange can change, and what
no command but a reset changes. -/

namespace Sys2Proof.Machine

/-- What the orders of a reply can change: everything but the queue of commands, the reset input, the straps and
the band evaluations asked for. -/
def orderParts : List Part :=
  [.modeControl, .tables, .link, .sequencer, .stations, .waiting, .control, .limitOrders, .closures, .composer,
   .centre, .alerts, .countOwed]

section fields
variable (s : State)

/-! ## The Link Controller's accounts -/

theorem State.settlePaths_touches (x : Exchange) : Touches [.link, .alerts] s (s.settlePaths x) := by
  unfold State.settlePaths
  dsimp only
  have h (l : Link) : Touches [.link, .alerts] s { s with link := l } := (touches_link s l).mono (by decide)
  have r (t : State) (a b : List AlertKey) : Touches [.link, .alerts] t (t.reportAll a b) :=
    (t.reportAll_touches a b).mono (by decide)
  have c (t : State) (k : AlertKey) (a b : Bool) : Touches [.link, .alerts] t (t.reportChange k a b) :=
    (t.reportChange_touches k a b).mono (by decide)
  split
  · split
    · exact (((h _).trans (c _ _ _ _)).trans (r _ _ _)).trans (c _ _ _ _)
    · exact ((h _).trans (c _ _ _ _)).trans (r _ _ _)
  · exact (h _).trans (r _ _ _)
theorem State.settleCounters_touches (x : Exchange) : Touches [.link, .alerts] s (s.settleCounters x) :=
  ((touches_link s _).mono (by decide)).trans ((State.reportChange_touches _ _ _ _).mono (by decide))
theorem State.counterReset_touches : Touches [.link, .alerts] s s.counterReset.1 :=
  ((touches_link s _).mono (by decide)).trans ((State.reportChange_touches _ _ _ _).mono (by decide))
theorem State.noteException_touches (c : Capture) : Touches [.link, .alerts] s (s.noteException c) :=
  ((touches_link s _).mono (by decide)).trans ((State.linkExceptionEvent_touches _).mono (by decide))
theorem State.noteOutcome_touches (x : Exchange) : Touches [.link, .alerts] s (s.noteOutcome x) :=
  Touches.ite (s.noteException_touches _) (.refl _ _)
theorem State.noteStray_touches (k : ExceptionKind) (x : Option ExchangeId) (p : Path) (r : CopyResult) :
    Touches [.link, .alerts] s (s.noteStray k x p r) :=
  ((touches_link s _).mono (by decide)).trans (State.noteException_touches _ _)
theorem State.forcePath_touches (p : Path) : Touches [.link, .alerts] s (s.forcePath p) :=
  ((touches_link s _).mono (by decide)).trans ((State.reportChange_touches _ _ _ _).mono (by decide))
theorem State.pathForce_touches (n : Nat) : Touches [.link, .alerts] s (s.pathForce n).1 := by
  unfold State.pathForce
  split
  · exact s.forcePath_touches _
  · exact s.forcePath_touches _
  · exact .refl _ _
theorem State.enterSingle_touches : Touches [.link, .alerts] s s.enterSingle :=
  (((touches_link s _).mono (by decide)).trans ((State.reportChange_touches _ _ _ _).mono (by decide))).trans
    ((State.reportChange_touches _ _ _ _).mono (by decide))
theorem State.enterDual_touches : Touches [.link] s s.enterDual := touches_link s _
theorem State.pathModeOrder_touches (m : PathMode) : Touches [.link, .alerts] s (s.pathModeOrder m).1 := by
  unfold State.pathModeOrder
  dsimp only
  split
  · exact .refl _ _
  · cases m
    · exact s.enterDual_touches.mono (by decide)
    · exact s.enterSingle_touches
theorem State.reportLink_touches : Touches [.alerts] s s.reportLink := s.reportAll_touches _ _

/-! ## The Cycle Sequencer -/

theorem State.handOverSgs_touches (g i : Nat) : Touches [.composer, .link] s (s.handOverSgs g i) :=
  (((s.setDelivery_touches g _).mono (by decide)).trans ((State.dequeue_touches _ g).mono (by decide))).trans
    ((State.handOver_touches _ _).mono (by decide))
theorem State.handOverSgq_touches (i : Nat) : Touches [.composer, .link] s (s.handOverSgq i) :=
  ((s.handOver_touches _).mono (by decide)).trans ((State.rotate_touches _).mono (by decide))
theorem State.takeCommand_touches (i : Nat) : Touches [.composer, .link] s (s.takeCommand i) := by
  unfold State.takeCommand
  split
  · exact Touches.ite (s.handOverSgs_touches _ i) (s.handOverSgq_touches i)
  · exact s.handOverSgq_touches i
theorem State.takeSlot_touches (i : Nat) (x : Slot) {t : State} (h : s.takeSlot i x = some t) :
    Touches [.composer, .link, .sequencer] s t := by
  cases x with
  | station n =>
    unfold State.takeSlot at h
    dsimp only at h
    split at h
    · cases h; exact (s.handOver_touches _).mono (by decide)
    · cases h
  | centre => cases h; exact (touches_sequencer s _).mono (by decide)
  | command => cases h; exact (s.takeCommand_touches i).mono (by decide)
  | spare =>
    unfold State.takeSlot at h
    dsimp only at h
    split at h
    · cases hn : s.lowestUntaken with
      | none => rw [hn] at h; cases h
      | some n => rw [hn] at h; cases h; exact (s.handOver_touches _).mono (by decide)
    · cases h
theorem State.walkFrom_touches (n : Nat) (s : State) : Touches [.composer, .link, .sequencer] s (State.walkFrom n s) := by
  induction n generalizing s with
  | zero => exact .refl _ _
  | succ n ih =>
    unfold State.walkFrom
    dsimp only
    have h := (touches_sequencer s { s.sequencer with position := s.positionAfter s.sequencer.position }).mono
      (qs := [.composer, .link, .sequencer]) (by decide)
    split
    · rename_i t ht
      cases hs : s.tables.cycle.getD s.sequencer.position none with
      | none => rw [hs] at ht; cases ht
      | some x => rw [hs] at ht; exact h.trans (State.takeSlot_touches _ _ _ ht)
    · exact h.trans (ih _)
theorem State.walk_touches : Touches [.composer, .link, .sequencer] s s.walk := State.walkFrom_touches _ s
theorem State.chooseRequest_touches : Touches [.composer, .link, .sequencer] s s.chooseRequest :=
  Touches.ite (((touches_sequencer s _).mono (by decide)).trans ((State.handOver_touches _ _).mono (by decide)))
    s.walk_touches
theorem State.enterStandby_touches : Touches [.composer, .link, .sequencer, .countOwed] s s.enterStandby := by
  have h : Touches [.composer, .link, .sequencer, .countOwed] s { s with
      sequencer := { s.sequencer with
        position := 0, interval := 0, markPending := false,
        intervalTimer := some (s.par.intervalLength * 1000), evaluationTimer := none, idleWait := none },
      countOwed := none } := by
    intro p hp; cases p <;> first | rfl | simp at hp
  exact Touches.ite h (h.trans ((State.walk_touches _).mono (by decide)))
theorem State.stopCycle_touches : Touches [.sequencer] s s.stopCycle := touches_sequencer s _
theorem State.overtake_touches (f : ReplyFate) : Touches [.link] s (s.overtake f) := touches_link s _

/-! ## Mode Control -/

theorem State.enterStartup_touches : Touches [.modeControl, .composer] s s.enterStartup :=
  ((touches_modeControl s _).mono (by decide)).trans ((State.requestPass_touches _ _).mono (by decide))
theorem State.modeRun_touches : Touches [.modeControl, .composer] s s.modeRun.1 := by
  unfold State.modeRun
  split
  · exact .refl _ _
  · exact s.enterStartup_touches
  · exact .refl _ _
  · exact .refl _ _
theorem State.stopSigning_touches :
    Touches [.modeControl, .control, .composer, .link, .sequencer, .countOwed] s s.stopSigning :=
  (((((s.setMode_touches _).mono (by decide)).trans ((State.stopDemands_touches _).mono (by decide))).trans
    ((State.clearDemands_touches _).mono (by decide))).trans ((State.overtake_touches _ _).mono (by decide))).trans
    ((State.enterStandby_touches _).mono (by decide))
theorem State.modeStandby_touches :
    Touches [.modeControl, .control, .composer, .link, .sequencer, .countOwed] s s.modeStandby.1 := by
  unfold State.modeStandby
  repeat' split
  all_goals first | exact .refl _ _ | exact s.stopSigning_touches
theorem State.endRound_touches : Touches [.centre] s s.endRound := touches_centre s _
theorem State.returnToUnconfigured_touches :
    Touches [.modeControl, .stations, .waiting, .control, .limitOrders, .closures, .composer, .alerts, .link,
      .centre, .sequencer] s s.returnToUnconfigured :=
  (((((((((s.setMode_touches _).mono (by decide)).trans ((State.emptyRecords_touches _).mono (by decide))).trans
    ((State.resetSpeed_touches _).mono (by decide))).trans ((State.resetClosures_touches _).mono (by decide))).trans
    ((State.resetComposer_touches _).mono (by decide))).trans ((State.lowerTableBound_touches _).mono (by decide))).trans
    ((State.overtake_touches _ _).mono (by decide))).trans ((State.endRound_touches _).mono (by decide))).trans
    ((State.stopCycle_touches _).mono (by decide))
theorem State.tableLoad_touches (a b c : Nat) (r : List (List Byte)) : Touches orderParts s (s.tableLoad a b c r).1 := by
  unfold State.tableLoad
  split
  · exact .refl _ _
  · split
    · exact .refl _ _
    · rename_i t _
      have h : Touches orderParts s
          { s with tables := t, modeControl := { s.modeControl with tableChecked := false } } := by
        intro p hp; cases p <;> first | rfl | simp [orderParts] at hp
      exact Touches.ite (h.trans ((State.returnToUnconfigured_touches _).mono (by decide))) h
theorem State.startMeasuring_touches :
    Touches [.modeControl, .stations, .waiting, .control, .limitOrders, .composer, .link, .sequencer, .countOwed] s
      s.startMeasuring :=
  ((((touches_modeControl s _).mono (by decide)).trans ((State.emptyRecords_touches _).mono (by decide))).trans
    ((State.resetSpeed_touches _).mono (by decide))).trans ((State.enterStandby_touches _).mono (by decide))
theorem State.tableCheck_touches :
    Touches [.modeControl, .stations, .waiting, .control, .limitOrders, .composer, .link, .sequencer, .countOwed] s
      s.tableCheck.1 := by
  unfold State.tableCheck
  repeat' split
  all_goals first | exact .refl _ _ | exact s.startMeasuring_touches
theorem State.reportAgain_touches : Touches [.alerts] s s.reportAgain :=
  Touches.ite ((s.reportLink_touches.trans (State.reportAll_touches _ _ _)).trans (State.raise_touches _ _))
    (s.reportLink_touches.trans (State.reportAll_touches _ _ _))
theorem State.clearAlerts_touches : Touches [.alerts, .link] s s.clearAlerts := by
  intro p hp; cases p <;> first | rfl | simp at hp
theorem State.clearReports_touches : Touches [.centre] s s.clearReports := touches_centre s _
theorem State.restart_touches :
    Touches [.modeControl, .stations, .waiting, .control, .limitOrders, .closures, .composer, .link, .centre,
      .alerts, .sequencer, .countOwed] s s.restart.1 := by
  have h := (((((((((touches_modeControl s { s.modeControl with
      mode := if s.modeControl.tableChecked then .standby else .unconfigured, startupCount := 0 }).mono
        (qs := [.modeControl, .stations, .waiting, .control, .limitOrders, .closures, .composer, .link, .centre,
          .alerts, .sequencer, .countOwed]) (by decide)).trans
    ((State.emptyRecords_touches _).mono (by decide))).trans ((State.resetSpeed_touches _).mono (by decide))).trans
    ((State.resetClosures_touches _).mono (by decide))).trans ((State.clearDemands_touches _).mono (by decide))).trans
    ((State.overtake_touches _ .judgeOnly).mono (by decide))).trans ((State.clearReports_touches _).mono (by decide))).trans
    ((State.clearAlerts_touches _).mono (by decide))).trans ((State.reportAgain_touches _).mono (by decide))
  exact Touches.ite (h.trans ((State.enterStandby_touches _).mono (by decide))) h
theorem State.countClose_touches : Touches [.modeControl, .composer] s s.countClose := by
  unfold State.countClose
  dsimp only
  split
  · have h := (touches_modeControl s { s.modeControl with startupCount := s.modeControl.startupCount + 1 }).mono
      (qs := [.modeControl, .composer]) (by decide)
    exact Touches.ite ((h.trans ((State.setMode_touches _ _).mono (by decide))).trans
      ((State.requestPass_touches _ _).mono (by decide))) h
  · exact .refl _ _
theorem State.payCount_touches : Touches [.modeControl, .composer, .countOwed] s s.payCount :=
  Touches.ite (((touches_countOwed s _).mono (by decide)).trans ((State.countClose_touches _).mono (by decide)))
    (.refl _ _)
theorem State.countEvaluated_touches : Touches [.modeControl, .composer, .countOwed] s s.countEvaluated :=
  Touches.ite s.payCount_touches (.refl _ _)
theorem State.countVisited_touches : Touches [.modeControl, .composer, .countOwed] s s.countVisited := by
  unfold State.countVisited
  split
  · exact .refl _ _
  · exact Touches.ite (.refl _ _) (Touches.ite s.payCount_touches ((touches_countOwed s _).mono (by decide)))
theorem State.startRound_touches : Touches [.centre] s s.startRound := touches_centre s _
theorem State.noteClose_touches (o : CountOrder) : Touches [.modeControl, .composer, .countOwed] s (s.noteClose o) := by
  unfold State.noteClose
  split
  · cases o
    · exact s.countClose_touches.mono (by decide)
    · exact (touches_countOwed s _).mono (by decide)
  · exact .refl _ _
theorem State.closeInterval_touches (o : CountOrder) :
    Touches [.sequencer, .modeControl, .composer, .countOwed, .stations, .alerts, .evaluationsAsked, .centre] s
      (s.closeInterval o) :=
  (((((touches_sequencer s _).mono (by decide)).trans ((State.payCount_touches _).mono (by decide))).trans
    ((State.closeReduction_touches _).mono (by decide))).trans ((State.noteClose_touches _ o).mono (by decide))).trans
    ((State.startRound_touches _).mono (by decide))

/-! ## Orders -/

theorem State.laneHealthClear_touches (n l : Nat) : Touches [.stations, .alerts] s (s.laneHealthClear n l).1 := by
  unfold State.laneHealthClear
  repeat' split
  all_goals first | exact .refl _ _ | exact s.clearLane_touches n l
theorem State.inject_touches (n l : Nat) (v : LaneValues) (k : Nat) : Touches [.stations] s (s.inject n l v k).1 := by
  unfold State.inject
  repeat' split
  all_goals first | exact .refl _ _ | exact s.startRun_touches n l v _
theorem State.alertAck_touches (c : AckScope) : Touches [.alerts, .link] s (s.alertAck c).1 :=
  ((touches_alerts s _).mono (by decide)).trans ((State.settleFreeze_touches _).mono (by decide))
theorem State.alertMask_touches (k : AlertKind) (m : Bool) : Touches [.alerts, .link] s (s.alertMask k m).1 :=
  ((touches_alerts s _).mono (by decide)).trans ((State.settleFreeze_touches _).mono (by decide))
theorem State.carryOut_touches (o : Order) : Touches orderParts s (s.carryOut o).1 := by
  cases o with
  | modeRun => exact s.modeRun_touches.mono (by decide)
  | modeStandby => exact s.modeStandby_touches.mono (by decide)
  | tableLoad a b c r => exact s.tableLoad_touches a b c r
  | tableCheck => exact s.tableCheck_touches.mono (by decide)
  | restart => exact s.restart_touches.mono (by decide)
  | laneClose => exact (s.closeRoad_touches _ _ _ _).mono (by decide)
  | carriagewayClose => exact (s.closeRoad_touches _ _ _ _).mono (by decide)
  | shoulderOpen => exact (s.shoulderOpen_touches _ _ _ _).mono (by decide)
  | orderClear => exact (s.orderClear_touches _).mono (by decide)
  | limitSet => exact (s.limitSet_touches _ _ _ _ _).mono (by decide)
  | laneHealthClear => exact (s.laneHealthClear_touches _ _).mono (by decide)
  | inject => exact (s.inject_touches _ _ _ _).mono (by decide)
  | pathForce => exact (s.pathForce_touches _).mono (by decide)
  | pathMode => exact (s.pathModeOrder_touches _).mono (by decide)
  | counterReset => exact s.counterReset_touches.mono (by decide)
  | query => exact .refl _ _
  | alertAck => exact (s.alertAck_touches _).mono (by decide)
  | alertMask => exact (s.alertMask_touches _ _).mono (by decide)
theorem State.takeOrder_touches (m : OrderMessage) : Touches orderParts s (s.takeOrder m) := by
  have h : Touches orderParts s (s.answerOrder m).2.1 := by
    unfold State.answerOrder
    split
    · exact s.carryOut_touches _
    · exact .refl _ _
    · exact .refl _ _
  exact h.trans ((State.offerReport_touches _ _).mono (by decide))
theorem State.takeOrders_touches (c : Nat) (p : List Byte) : Touches orderParts s (s.takeOrders c p) := by
  have h := Touches.foldl (fun t m => t.takeOrder_touches m) (readMessages (min c (statedOrders p)) (p.drop 1)) s
  exact Touches.ite (h.trans ((touches_alerts _ _).mono (by decide))) h

/-! ## Centre Exchange and the choice of the next request -/

theorem State.buildCentre_touches (i : Option Nat) : Touches [.centre, .sequencer, .link] s (s.buildCentre i) := by
  intro p hp; cases p <;> first | rfl | simp at hp
theorem State.dropCarried_touches : Touches [.centre] s s.dropCarried := touches_centre s _
theorem State.settleFailed_touches : Touches [.centre, .alerts] s s.settleFailed := by
  unfold State.settleFailed
  have h (c : Centre) : Touches [.centre, .alerts] s { s with centre := c } := (touches_centre s c).mono (by decide)
  exact (Touches.ite ((h _).trans ((State.raise_touches _ _).mono (by decide))) (h _)).trans
    ((State.dropCarried_touches _).mono (by decide))
theorem State.relink_touches : Touches [.centre, .alerts] s s.relink := by
  unfold State.relink
  have h (c : Centre) : Touches [.centre, .alerts] s { s with centre := c } := (touches_centre s c).mono (by decide)
  exact Touches.ite ((h _).trans ((State.lower_touches _ _).mono (by decide))) (h _)
theorem State.departCarried_touches (c : Carried) : Touches [.centre, .waiting] s (s.departCarried c) := by
  unfold State.departCarried
  have h := Touches.foldl (fun t n => t.departReport_touches n) c.entries s
  dsimp only
  split
  · exact h.trans ((State.advanceOffset_touches _ _ _).mono (by decide))
  · exact h
theorem State.moveCursor_touches (c : Carried) : Touches [.centre] s (s.moveCursor c) := by
  unfold State.moveCursor
  split
  · exact Touches.ite (touches_centre s _) (.refl _ _)
  · exact .refl _ _
theorem State.settleReceived_touches (p : List Byte) : Touches orderParts s (s.settleReceived p) :=
  (((((s.relink_touches.mono (by decide)).trans ((touches_alerts _ _).mono (by decide))).trans
    ((State.departCarried_touches _ _).mono (by decide))).trans ((State.moveCursor_touches _ _).mono (by decide))).trans
    (State.takeOrders_touches _ _ p)).trans ((State.dropCarried_touches _).mono (by decide))
theorem State.settleCentre_touches : Touches orderParts s s.settleCentre := by
  unfold State.settleCentre
  split
  · exact .refl _ _
  · exact s.settleFailed_touches.mono (by decide)
  · exact s.settleReceived_touches _
theorem State.completeBuild_touches : Touches orderParts s s.completeBuild := by
  unfold State.completeBuild
  split
  · exact .refl _ _
  · exact s.settleCentre_touches.trans ((State.buildCentre_touches _ _).mono (by decide))
theorem State.chooseNext_touches : Touches orderParts s s.chooseNext :=
  (s.chooseRequest_touches.mono (by decide)).trans (State.completeBuild_touches _)
theorem State.exchangeEnded_touches (b : Bool) : Touches orderParts s (s.exchangeEnded b) :=
  Touches.ite (Touches.ite ((touches_sequencer s _).mono (by decide)) s.chooseNext_touches)
    ((touches_sequencer s _).mono (by decide))
theorem State.payChoice_touches : Touches orderParts s s.payChoice :=
  Touches.ite (((touches_sequencer s _).mono (by decide)).trans (State.chooseNext_touches _)) (.refl _ _)
theorem State.settleNow_touches : Touches orderParts s s.settleNow :=
  (s.settleCentre_touches.trans (State.completeBuild_touches _)).trans (State.payChoice_touches _)

/-! ## The exchange -/

theorem State.startTransmission_touches (r : Request) : Touches [.link] s (s.startTransmission r) := touches_link s _
theorem State.openAtMark_touches : Touches [.stations, .sequencer] s s.openAtMark :=
  (s.openInterval_touches.mono (by decide)).trans ((touches_sequencer _ _).mono (by decide))
theorem State.endMark_touches : Touches orderParts s s.endMark := by
  have h := s.settleCentre_touches.trans ((State.setPhase_touches _ .idle).mono (by decide))
  exact (Touches.ite (h.trans ((State.openAtMark_touches _).mono (by decide))) h).trans
    (State.exchangeEnded_touches _ false)
theorem State.endTransmission_touches (x : Exchange) : Touches orderParts s (s.endTransmission x) :=
  Touches.ite ((s.stopDriving_touches.mono (by decide)).trans (State.endMark_touches _))
    ((s.stopDriving_touches.mono (by decide)).trans ((State.setPhase_touches _ _).mono (by decide)))
theorem State.handOutcome_touches (x : Exchange) :
    Touches [.stations, .alerts, .centre, .waiting, .closures, .composer] s (s.handOutcome x) := by
  unfold State.handOutcome
  split
  · exact .refl _ _
  · exact (s.judgeIvr_touches _ _).mono (by decide)
  · exact (s.judgeSign_touches _ _).mono (by decide)
  · exact (s.judgeSign_touches _ _).mono (by decide)
  · exact (touches_centre s _).mono (by decide)
theorem State.concludeExchange_touches (o : ChoiceOrder) (x : Exchange) :
    Touches orderParts s (s.concludeExchange o x) :=
  (((((s.settlePaths_touches x).mono (by decide)).trans ((State.settleCounters_touches _ x).mono (by decide))).trans
    ((State.noteOutcome_touches _ x).mono (by decide))).trans ((State.setPhase_touches _ _).mono (by decide))).trans
    (((State.handOutcome_touches _ x).mono (by decide)).trans (State.exchangeEnded_touches _ _))
theorem State.endExchange_touches (o : ChoiceOrder) : Touches orderParts s (s.endExchange o) := by
  unfold State.endExchange
  dsimp only
  split
  · exact s.settleCentre_touches.trans (State.concludeExchange_touches _ o _)
  all_goals exact s.settleCentre_touches
theorem State.startFrame_touches (p : Path) : Touches [.link] s (s.startFrame p) :=
  Touches.ite (s.setReceiving_touches p _) (.refl _ _)
theorem State.endLate_touches (p : Path) (e : Bool) (b : List Byte) : Touches [.link, .alerts] s (s.endLate p e b) := by
  unfold State.endLate
  dsimp only
  split
  · exact (s.noteStray_touches _ _ _ _).trans ((State.setPhase_touches _ _).mono (by decide))
  all_goals exact s.noteStray_touches _ _ _ _
theorem State.endBelonging_touches (x : Exchange) (p : Path) (e : Bool) (b : List Byte) (o : ChoiceOrder) :
    Touches orderParts s (s.endBelonging x p e b o) := by
  have h := ((Touches.ite (c := (x.duplicates p (classify x.ident e b)) = true)
    (s.noteStray_touches .duplicate (some x.ident) p .valid) (.refl _ s)).mono (qs := orderParts) (by decide)).trans
      ((State.setPhase_touches _ (.awaiting (x.afterFrame p (classify x.ident e b) b
        (s.belongingOn x (otherPath p))).1)).mono (by decide))
  exact Touches.ite (h.trans (State.endExchange_touches _ o)) h
theorem State.endOutlived_touches (p : Path) (e : Bool) (b : List Byte) :
    Touches [.link, .alerts] s (s.endOutlived p e b) := Touches.ite (s.noteStray_touches _ _ _ _) (.refl _ _)
theorem State.endFrame_touches (p : Path) (e : Bool) (b : List Byte) (o : ChoiceOrder) :
    Touches orderParts s (s.endFrame p e b o) := by
  unfold State.endFrame
  split
  · exact .refl _ _
  · have h := (s.setReceiving_touches p none).mono (qs := orderParts) (by decide)
    dsimp only
    split
    · exact h
    · split
      · exact h.trans ((State.endLate_touches _ p e b).mono (by decide))
      · exact h.trans (State.endBelonging_touches _ _ p e b o)
      · exact h.trans ((State.endOutlived_touches _ p e b).mono (by decide))
theorem State.expireReply_touches (o : ChoiceOrder) : Touches orderParts s (s.expireReply o) := by
  unfold State.expireReply
  split
  · split
    · exact .refl _ _
    · have h (x : LinkPhase) := (s.setPhase_touches x).mono (qs := orderParts) (by decide)
      exact Touches.ite (h _) ((h _).trans (State.endExchange_touches _ o))
  all_goals exact .refl _ _
theorem State.startHeld_touches : Touches [.link] s s.startHeld := by
  unfold State.startHeld
  repeat' split
  all_goals first | exact .refl _ _ | exact s.startTransmission_touches _
theorem State.leaveGuard_touches : Touches [.link] s s.leaveGuard := by
  unfold State.leaveGuard
  repeat' split
  all_goals first | exact .refl _ _ | exact s.startTransmission_touches _ | exact s.setPhase_touches _
theorem State.expireIdleWait_touches : Touches orderParts s s.expireIdleWait :=
  Touches.ite (((touches_sequencer s _).mono (by decide)).trans (State.completeBuild_touches _)) (.refl _ _)
theorem State.expireInterval_touches (o : CountOrder) :
    Touches [.sequencer, .modeControl, .composer, .countOwed, .stations, .alerts, .evaluationsAsked, .centre] s
      (s.expireInterval o) := by
  unfold State.expireInterval
  split
  · have h := (touches_sequencer s { s.sequencer with intervalTimer := some (s.par.intervalLength * 1000) }).mono
      (qs := [.sequencer, .modeControl, .composer, .countOwed, .stations, .alerts, .evaluationsAsked, .centre])
      (by decide)
    exact (Touches.ite (h.trans (State.closeInterval_touches _ o)) h).trans ((touches_sequencer _ _).mono (by decide))
  · exact .refl _ _
theorem State.takeEvaluation_touches :
    Touches [.control, .alerts, .composer, .modeControl, .countOwed, .evaluationsAsked] s s.takeEvaluation := by
  unfold State.takeEvaluation
  split
  · exact .refl _ _
  · have h := (touches_evaluationsAsked s (s.evaluationsAsked - 1)).mono
      (qs := [.control, .alerts, .composer, .modeControl, .countOwed, .evaluationsAsked]) (by decide)
    exact (Touches.ite (h.trans ((State.evaluateBands_touches _).mono (by decide))) h).trans
      ((State.countEvaluated_touches _).mono (by decide))
theorem State.tick_touches : Touches [.sequencer, .link, .control, .closures, .composer] s s.tick := by
  unfold State.tick
  split
  · exact .refl _ _
  · intro p hp; cases p <;> first | rfl | simp at hp

end fields

/-! ## The commands -/

/-- An event of the part answers a next state: the state as it is while the reset input is asserted, else the
event's. -/
theorem State.unlessReset_cases {event : State → State} {s t : State} (h : s.unlessReset event = .next t) :
    (s.resetAsserted = true ∧ t = s) ∨ (s.resetAsserted = false ∧ t = event s) := by
  unfold State.unlessReset at h
  cases hr : s.resetAsserted with
  | true => rw [hr] at h; cases h; exact .inl ⟨rfl, rfl⟩
  | false => rw [hr] at h; cases h; exact .inr ⟨rfl, rfl⟩

/-- What every command but the two of the reset input can change. -/
def eventParts : List Part := .evaluationsAsked :: orderParts

/-- An event that touches some parts, taken unless the reset input is asserted, touches them as well. -/
theorem Touches.unlessReset {ps : List Part} {event : State → State} {s t : State} (h : Touches ps s (event s))
    (k : s.unlessReset event = .next t) : Touches ps s t := by
  rcases State.unlessReset_cases k with ⟨_, rfl⟩ | ⟨_, rfl⟩
  · exact .refl _ _
  · exact h

/-- Every command but HARDWARE_RESET and RESET_RELEASE leaves the queue of commands, the reset input and the
straps as they are. -/
theorem exec_touches {c : Instr} {s t : State} (h1 : c ≠ .hardwareReset) (h2 : ∀ r k p, c ≠ .resetRelease r k p)
    (h : exec c s = .next t) : Touches eventParts s t := by
  cases c with
  | hardwareReset => exact absurd rfl h1
  | resetRelease r k p => exact absurd rfl (h2 r k p)
  | transmissionStart => exact Touches.unlessReset (s.startHeld_touches.mono (by decide)) h
  | endOfTransmission =>
    change execEndOfTransmission s = _ at h
    unfold execEndOfTransmission at h
    refine Touches.unlessReset ?_ h
    split <;> first | exact .refl _ _ | exact (s.endTransmission_touches _).mono (by decide)
  | frameEnd p e b o => exact Touches.unlessReset ((s.endFrame_touches p e b o).mono (by decide)) h
  | replyTimeout o => exact Touches.unlessReset ((s.expireReply_touches o).mono (by decide)) h
  | guardGapElapsed => exact Touches.unlessReset (s.leaveGuard_touches.mono (by decide)) h
  | builtInIdleWaitExpiry => exact Touches.unlessReset (s.expireIdleWait_touches.mono (by decide)) h
  | intervalTimerExpiry o => exact Touches.unlessReset ((s.expireInterval_touches o).mono (by decide)) h
  | evaluationTimerExpiry o =>
    exact Touches.unlessReset (Touches.ite ((s.closeInterval_touches o).mono (by decide)) (.refl _ _)) h
  | bandEvaluation => exact Touches.unlessReset (s.takeEvaluation_touches.mono (by decide)) h
  | waitingResultOffer => exact Touches.unlessReset (s.offerWaiting_touches.mono (by decide)) h
  | centreExchangeReceived =>
    change execCentreExchangeReceived s = _ at h
    unfold execCentreExchangeReceived at h
    refine Touches.unlessReset ?_ h
    split
    · exact s.settleNow_touches.mono (by decide)
    all_goals exact .refl _ _
  | centreExchangeFailed =>
    change execCentreExchangeFailed s = _ at h
    unfold execCentreExchangeFailed at h
    refine Touches.unlessReset ?_ h
    split
    · exact s.settleNow_touches.mono (by decide)
    all_goals exact .refl _ _
  | compositionPassVisit =>
    change execCompositionPassVisit s = _ at h
    unfold execCompositionPassVisit at h
    refine Touches.unlessReset ?_ h
    split
    · exact ((s.visit_touches _).mono (by decide)).trans ((State.countVisited_touches _).mono (by decide))
    · exact .refl _ _
  | dwellTimerExpiry g =>
    exact Touches.unlessReset (Touches.ite ((s.expireDwell_touches g).mono (by decide)) (.refl _ _)) h
  | mergeHoldExpiry n => exact Touches.unlessReset ((s.expireHold_touches n).mono (by decide)) h
  | refreshTimeReached g =>
    exact Touches.unlessReset (Touches.ite ((s.reachRefresh_touches g).mono (by decide)) (.refl _ _)) h
  | frameStart p => exact Touches.unlessReset ((s.startFrame_touches p).mono (by decide)) h

end Sys2Proof.Machine
end

