-- ==== Sys2Proof/WellFormed.lean ====
section
/-! DEFINITION. Which commands are well formed: the operands lie in the fixed ranges of the manual. -/

namespace Sys2Proof

/-- A command's operands lie in the ranges the manual fixes: a gantry is 0 to 31 (R9), a Closure Register
slot 0 to 11 (R119), and a frame is a run of at least one byte (R180). -/
def Instr.wellFormed : Instr → Bool
  | .hardwareReset => true
  | .resetRelease _ _ _ => true
  | .transmissionStart => true
  | .endOfTransmission => true
  | .frameEnd _ _ bytes _ => !bytes.isEmpty
  | .replyTimeout _ => true
  | .guardGapElapsed => true
  | .builtInIdleWaitExpiry => true
  | .intervalTimerExpiry _ => true
  | .evaluationTimerExpiry _ => true
  | .bandEvaluation => true
  | .waitingResultOffer => true
  | .centreExchangeReceived => true
  | .centreExchangeFailed => true
  | .compositionPassVisit => true
  | .dwellTimerExpiry gantry => decide (gantry < Config.maxGantries)
  | .mergeHoldExpiry slot => decide (slot < Config.closureRegisterSize)
  | .refreshTimeReached gantry => decide (gantry < Config.maxGantries)
  | .frameStart _ => true

end Sys2Proof
end

