-- ==== Sys2Proof/Laws/PerInstr.lean ====
section
/-! SUPPORT. A family of statements about every command as syntax: what its operands may be. -/

namespace Sys2Proof.Laws.Operands

/-- A well-formed command names only what the part has: a gantry number is one of the Gantry Map's, a slot one of
the Closure Register's, and a frame has a first byte. -/
def Statement (i : Instr) : Prop :=
  i.wellFormed = true →
    (∀ g, i = .dwellTimerExpiry g ∨ i = .refreshTimeReached g → g < Config.maxGantries) ∧
    (∀ n, i = .mergeHoldExpiry n → n < Config.closureRegisterSize) ∧
    ∀ p e bytes o, i = .frameEnd p e bytes o → bytes ≠ []

theorem hardwareReset : Statement .hardwareReset := fun _ => by simp
theorem resetRelease (rate : BitVec 2) (trunk : BitVec 7) (pathModeHigh : Bool) :
    Statement (.resetRelease rate trunk pathModeHigh) := fun _ => by simp
theorem transmissionStart : Statement .transmissionStart := fun _ => by simp
theorem endOfTransmission : Statement .endOfTransmission := fun _ => by simp
theorem frameEnd (path : Path) (codingError : Bool) (bytes : List Byte) (order : ChoiceOrder) :
    Statement (.frameEnd path codingError bytes order) := fun h => by
  refine ⟨by simp, by simp, ?_⟩
  rintro p e bs o ⟨⟩ rfl
  cases h
theorem replyTimeout (order : ChoiceOrder) : Statement (.replyTimeout order) := fun _ => by simp
theorem guardGapElapsed : Statement .guardGapElapsed := fun _ => by simp
theorem builtInIdleWaitExpiry : Statement .builtInIdleWaitExpiry := fun _ => by simp
theorem intervalTimerExpiry (order : CountOrder) : Statement (.intervalTimerExpiry order) := fun _ => by simp
theorem evaluationTimerExpiry (order : CountOrder) : Statement (.evaluationTimerExpiry order) := fun _ => by simp
theorem bandEvaluation : Statement .bandEvaluation := fun _ => by simp
theorem waitingResultOffer : Statement .waitingResultOffer := fun _ => by simp
theorem centreExchangeReceived : Statement .centreExchangeReceived := fun _ => by simp
theorem centreExchangeFailed : Statement .centreExchangeFailed := fun _ => by simp
theorem compositionPassVisit : Statement .compositionPassVisit := fun _ => by simp
theorem dwellTimerExpiry (gantry : Nat) : Statement (.dwellTimerExpiry gantry) := fun h => by
  refine ⟨?_, by simp, by simp⟩
  intro g hg
  have hg : g = gantry := by simpa [eq_comm] using hg
  exact hg ▸ of_decide_eq_true h
theorem mergeHoldExpiry (slot : Nat) : Statement (.mergeHoldExpiry slot) := fun h => by
  refine ⟨by simp, ?_, by simp⟩
  rintro n ⟨⟩
  exact of_decide_eq_true h
theorem refreshTimeReached (gantry : Nat) : Statement (.refreshTimeReached gantry) := fun h => by
  refine ⟨?_, by simp, by simp⟩
  intro g hg
  have hg : g = gantry := by simpa [eq_comm] using hg
  exact hg ▸ of_decide_eq_true h
theorem frameStart (path : Path) : Statement (.frameStart path) := fun _ => by simp

end Sys2Proof.Laws.Operands
end

