-- ==== Sys2Proof/Laws/Reports.lean ====
section
/-! SUPPORT. The Report Queue: what an offer and a departure do, and that they keep its law (R97, R169). -/

namespace Sys2Proof.Machine

/-- What an offered entry does: it joins the tail with the next number, or nothing changes (R169). -/
theorem State.offerReport_cases (b : ReportBody) (s : State) :
    (s.centre.queue.length < b.room ∧
      (s.offerReport b).centre.queue = s.centre.queue ++ [{ number := s.centre.nextReport, body := b, offset := 0 }] ∧
      (s.offerReport b).centre.nextReport = (s.centre.nextReport + 1) % 65536) ∨
    (b.room ≤ s.centre.queue.length ∧ s.offerReport b = s) := by
  unfold State.offerReport State.hasRoom
  by_cases h : s.centre.queue.length < b.room
  · exact .inl ⟨h, by simp [h], by simp [h]⟩
  · exact .inr ⟨by omega, by simp [h]⟩

theorem ReportBody.room_le (b : ReportBody) : b.room ≤ Config.reportQueueSize := by
  cases b <;> simp [ReportBody.room, Config.gantryNoticeLimit, Config.reportQueueSize]

theorem State.offerReport_waiting (b : ReportBody) (s : State) : (s.offerReport b).waiting = s.waiting :=
  s.offerReport_touches b .waiting (by decide)

/-- An offer keeps the law of the Report Queue. -/
theorem State.offerReport_reports {s : State} (b : ReportBody) (h : s.ReportsWf) : (s.offerReport b).ReportsWf := by
  have hr := b.room_le
  obtain ⟨h1, h2⟩ := h
  rcases s.offerReport_cases b with ⟨a, q, _⟩ | ⟨_, e⟩
  · refine ⟨by rw [q, List.length_append]; simp; omega, .inl ?_⟩
    rw [s.offerReport_waiting]
    exact h2.resolve_right (by omega)
  · rw [e]; exact ⟨h1, h2⟩

/-- A result offered as its run ends keeps the law of the Report Queue. -/
theorem State.offerResult_reports {s : State} (r : InjectionResult) (h : s.ReportsWf) : (s.offerResult r).ReportsWf := by
  unfold State.offerResult
  split
  · exact State.offerReport_reports _ h
  · rename_i hr
    obtain ⟨h1, _⟩ := h
    exact ⟨h1, .inr (Nat.le_antisymm h1 (Nat.le_of_not_lt fun k => hr (decide_eq_true k)))⟩

/-- The waiting results offered: they leave while there is room, and the law of the Report Queue holds after. -/
theorem offerFrom_reports (rs : List InjectionResult) (s : State) (h : s.centre.queue.length ≤ Config.reportQueueSize) :
    (offerFrom rs s).ReportsWf := by
  induction rs generalizing s with
  | nil => exact ⟨h, .inl rfl⟩
  | cons r rest ih =>
    unfold offerFrom
    split
    · rename_i hr
      refine ih _ ?_
      rcases s.offerReport_cases (.injectionResult r) with ⟨a, q, _⟩ | ⟨_, e⟩
      · have := ReportBody.room_le (.injectionResult r)
        rw [q, List.length_append]; simp; omega
      · rw [e]; exact h
    · rename_i hr
      exact ⟨h, .inr (Nat.le_antisymm h (Nat.le_of_not_lt fun k => hr (decide_eq_true k)))⟩

/-- A departure, with the waiting results offered at once, keeps the law of the Report Queue. -/
theorem State.departReport_reports {s : State} (n : Nat) (h : s.ReportsWf) : (s.departReport n).ReportsWf := by
  unfold State.departReport
  split
  · refine offerFrom_reports _ _ ?_
    exact le_trans (List.length_filter_le _ _) h.1
  · exact h

/-- A move of a delivered offset leaves the queue's numbers and length alone. -/
theorem State.advanceOffset_length (n o : Nat) (s : State) :
    (s.advanceOffset n o).centre.queue.length = s.centre.queue.length := by simp [State.advanceOffset]
theorem State.advanceOffset_numbers (n o : Nat) (s : State) :
    (s.advanceOffset n o).centre.queue.map Report.number = s.centre.queue.map Report.number := by
  simp only [State.advanceOffset, List.map_map]
  refine List.map_congr_left fun r _ => ?_
  dsimp only [Function.comp]
  split <;> rfl

end Sys2Proof.Machine
end

