-- ==== Sys2Proof/Laws/Requests.lean ====
section
/-! SUPPORT. The choice of the next request: what it leaves alone in the link, the sequencer and the composer. -/

namespace Sys2Proof.Machine

/-- Only what the choice of a request may change in the link and the sequencer. -/
def Chose (s t : State) : Prop :=
  t.link = { s.link with held := t.link.held } ∧
  t.sequencer = { s.sequencer with position := t.sequencer.position, markPending := t.sequencer.markPending, building := t.sequencer.building } ∧
  t.composer = { s.composer with delivery := t.composer.delivery, queue := t.composer.queue, rotation := t.composer.rotation }

theorem Chose.refl (s : State) : Chose s s := ⟨rfl, rfl, rfl⟩
theorem Chose.trans {s t u : State} (h : Chose s t) (k : Chose t u) : Chose s u := by
  obtain ⟨a, b, c⟩ := h
  obtain ⟨a', b', c'⟩ := k
  refine ⟨?_, ?_, ?_⟩
  · rw [a', a]
  · rw [b', b]
  · rw [c', c]

theorem State.takeSlot_chose (s : State) (i : Nat) (x : Slot) {t : State} (h : s.takeSlot i x = some t) : Chose s t := by
  cases x <;> simp only [State.takeSlot] at h
  · split at h <;> cases h; exact ⟨rfl, rfl, rfl⟩
  · cases h; exact ⟨rfl, rfl, rfl⟩
  · cases h; unfold State.takeCommand; split
    · split
      · exact ⟨rfl, rfl, rfl⟩
      · exact ⟨rfl, rfl, rfl⟩
    · exact ⟨rfl, rfl, rfl⟩
  · split at h
    · cases hn : s.lowestUntaken <;> rw [hn] at h <;> cases h; exact ⟨rfl, rfl, rfl⟩
    · cases h

theorem State.walkFrom_chose (n : Nat) (s : State) : Chose s (State.walkFrom n s) := by
  induction n generalizing s with
  | zero => exact .refl s
  | succ n ih =>
    unfold State.walkFrom
    dsimp only
    split
    · rename_i t ht
      cases hs : s.tables.cycle.getD s.sequencer.position none with
      | none => rw [hs] at ht; cases ht
      | some x =>
        rw [hs] at ht
        have k := State.takeSlot_chose _ _ _ (show State.takeSlot s.sequencer.position x _ = some t from ht)
        exact Chose.trans (t := { s with sequencer := { s.sequencer with position := s.positionAfter s.sequencer.position } }) ⟨rfl, rfl, rfl⟩ k
    · exact Chose.trans (t := { s with sequencer := { s.sequencer with position := s.positionAfter s.sequencer.position } }) ⟨rfl, rfl, rfl⟩ (ih _)

theorem State.chooseRequest_chose (s : State) : Chose s s.chooseRequest := by
  unfold State.chooseRequest; split
  · exact ⟨rfl, rfl, rfl⟩
  · exact State.walkFrom_chose _ s

theorem State.chooseNext_chose {s : State} (h : s.centre.unsettled = none) : Chose s s.chooseNext := by
  unfold State.chooseNext State.completeBuild
  have hu : s.chooseRequest.centre.unsettled = none := by
    rw [show s.chooseRequest.centre = s.centre from s.chooseRequest_touches .centre (by decide)]; exact h
  split
  · exact s.chooseRequest_chose
  · refine s.chooseRequest_chose.trans ?_
    have : s.chooseRequest.settleCentre = s.chooseRequest := by unfold State.settleCentre; rw [hu]
    rw [this]; exact ⟨rfl, rfl, rfl⟩
theorem State.chooseNext_chose_touches {s : State} (h : s.centre.unsettled = none) : Touches [.link, .sequencer, .composer, .centre] s s.chooseNext := by
  unfold State.chooseNext State.completeBuild
  have hu : s.chooseRequest.centre.unsettled = none := by
    rw [show s.chooseRequest.centre = s.centre from s.chooseRequest_touches .centre (by decide)]; exact h
  split
  · exact s.chooseRequest_touches.mono (by decide)
  · refine (s.chooseRequest_touches.mono (by decide)).trans ?_
    have : s.chooseRequest.settleCentre = s.chooseRequest := by unfold State.settleCentre; rw [hu]
    rw [this]; intro p hp; cases p <;> first | rfl | simp at hp
end Sys2Proof.Machine
end

