-- ==== Sys2Proof/Laws/Values.lean ====
section
/-! SUPPORT. The arithmetic of chapter 05, the pair of paths, bytes, and the pass request. -/

namespace Sys2Proof.Machine

/-! ## Pairs of paths -/

@[simp] theorem PerPath.get_set_same {α : Type} (v : PerPath α) (p : Path) (x : α) : (v.set p x).get p = x := by
  cases p <;> rfl
@[simp] theorem PerPath.get_set_other {α : Type} (v : PerPath α) (p : Path) (x : α) :
    (v.set p x).get (otherPath p) = v.get (otherPath p) := by cases p <;> rfl
@[simp] theorem otherPath_otherPath (p : Path) : otherPath (otherPath p) = p := by cases p <;> rfl

/-! ## Bytes -/

theorem natOf_twoBytes (n : Nat) (h : n < 65536) : natOf (twoBytes n) = n := by
  simp [natOf, twoBytes, byteOf]; omega

@[simp] theorem mem_laneSetOf (n : Nat) (b : Byte) : n ∈ laneSetOf b ↔ n < Config.maxLanes ∧ b.getLsbD n = true := by
  simp [laneSetOf]

/-! ## Smoothing (R75) -/

/-- Toward a higher input S rises by the floor of w eighths of the difference. -/
theorem smooth_up (s v w : Nat) (h : s ≤ 16 * v) : smooth s v w = s + (16 * v - s) * w / 8 := by
  unfold smooth
  have : (((16 * v : Nat) : Int) - s) * w = (((16 * v - s) * w : Nat) : Int) := by push_cast [Nat.cast_sub h]; ring
  rw [this, Int.tdiv_eq_ediv_of_nonneg (by positivity)]
  omega

/-- Toward a lower input S falls by the floor of w eighths of the difference. -/
theorem smooth_down (s v w : Nat) (h : 16 * v ≤ s) (hw : w ≤ 8) : smooth s v w = s - (s - 16 * v) * w / 8 := by
  unfold smooth
  have : (((16 * v : Nat) : Int) - s) * w = -(((s - 16 * v) * w : Nat) : Int) := by push_cast [Nat.cast_sub h]; ring
  rw [this, Int.neg_tdiv, Int.tdiv_eq_ediv_of_nonneg (by positivity)]
  have : (s - 16 * v) * w / 8 ≤ s - 16 * v := by
    have : (s - 16 * v) * w ≤ (s - 16 * v) * 8 := by gcongr
    omega
  omega

/-- The greatest of a list and a start value bounds both, and is one of them. -/
theorem foldl_max_spec (l : List Nat) (a : Nat) :
    (∀ x ∈ l, x ≤ l.foldl max a) ∧ a ≤ l.foldl max a ∧ (l.foldl max a = a ∨ l.foldl max a ∈ l) := by
  induction l generalizing a with
  | nil => simp
  | cons y ys ih =>
    obtain ⟨h1, h2, h3⟩ := ih (max a y)
    simp only [List.foldl_cons, List.mem_cons]
    refine ⟨?_, by omega, ?_⟩
    · rintro x (rfl | hx)
      · omega
      · exact h1 x hx
    · rcases h3 with h | h
      · rw [h]; omega
      · exact .inr (.inr h)

/-- The last member of a strictly rising list is its greatest. -/
theorem getLast?_greatest (l : List Nat) (h : l.Pairwise (· < ·)) (v : Nat) (hv : l.getLast? = some v) :
    v ∈ l ∧ ∀ x ∈ l, x ≤ v := by
  induction l with
  | nil => simp at hv
  | cons a t ih =>
    cases t with
    | nil => simp at hv; subst hv; simp
    | cons b t =>
      rw [List.getLast?_cons_cons] at hv
      obtain ⟨h1, _⟩ := List.pairwise_cons.mp h
      obtain ⟨h3, h4⟩ := ih (List.pairwise_cons.mp h).2 hv
      refine ⟨List.mem_cons_of_mem _ h3, fun x hx => ?_⟩
      rcases List.mem_cons.mp hx with rfl | hx
      · exact (h1 _ h3).le
      · exact h4 x hx

/-! ## Pass requests (R140) -/

/-- What a pass request does: outside STARTUP and ACTIVE nothing; else the pass runs from the gantry asked for or
from the one it had still to visit, whichever lies further downstream. -/
theorem State.requestPass_cases (g : Nat) (s : State) :
    (s.signing = false ∧ s.requestPass g = s) ∨
    (s.signing = true ∧ ∃ n, s.requestPass g = { s with composer := { s.composer with pass := some n } } ∧
      g ≤ n ∧ (n = g ∨ s.composer.pass = some n) ∧ ∀ m, s.composer.pass = some m → m ≤ n) := by
  unfold State.requestPass
  cases hs : s.signing with
  | false => exact .inl ⟨rfl, rfl⟩
  | true =>
    refine .inr ⟨rfl, ?_⟩
    cases hp : s.composer.pass with
    | none => exact ⟨g, by simp, le_refl g, .inl rfl, by simp⟩
    | some n =>
      by_cases hl : g ≤ n
      · exact ⟨n, by simp [hl], hl, .inr rfl, by simp⟩
      · exact ⟨g, by simp [hl], le_refl g, .inl rfl, by simp; omega⟩

end Sys2Proof.Machine
end

