-- ==== Sys2Proof/Laws/Visits.lean ====
section
/-! SUPPORT. What the operations of a visit do: the least limit, the candidate, the overlay aspect, the placement,
the settling of effective sites, and the count of a close that a visit may bring. -/

namespace Sys2Proof.Machine

/-! ## Reports of other entries (R173) -/

/-- Falls and rises leave the flags of every other entry alone. -/
theorem State.reportAll_other (s : State) (f r : List AlertKey) (k : AlertKey) (hf : k ∉ f) (hr : k ∉ r) :
    (k ∈ (s.reportAll f r).alerts.present ↔ k ∈ s.alerts.present) ∧
    (k ∈ (s.reportAll f r).alerts.latched ↔ k ∈ s.alerts.latched) := by
  have A : ∀ (l : List AlertKey) (t : State), k ∉ l →
      (k ∈ (l.foldl (fun (t : State) k => t.lower k) t).alerts.present ↔ k ∈ t.alerts.present) ∧
      (k ∈ (l.foldl (fun (t : State) k => t.lower k) t).alerts.latched ↔ k ∈ t.alerts.latched) := by
    intro l
    induction l with
    | nil => intro t _; simp
    | cons a l ih =>
      intro t h
      simp at h
      obtain ⟨i1, i2⟩ := ih (t.lower a) h.2
      simp only [List.foldl_cons]
      rw [i1, i2]
      simp only [State.lower]
      exact ⟨AlertUnit.mem_fall_present _ _ _ h.1, by simp⟩
  have B : ∀ (l : List AlertKey) (t : State), k ∉ l →
      (k ∈ (l.foldl (fun (t : State) k => t.raise k) t).alerts.present ↔ k ∈ t.alerts.present) ∧
      (k ∈ (l.foldl (fun (t : State) k => t.raise k) t).alerts.latched ↔ k ∈ t.alerts.latched) := by
    intro l
    induction l with
    | nil => intro t _; simp
    | cons a l ih =>
      intro t h
      simp at h
      obtain ⟨i1, i2⟩ := ih (t.raise a) h.2
      simp only [List.foldl_cons]
      rw [i1, i2]
      simp only [State.raise]
      refine ⟨by simp [h.1], ?_⟩
      unfold AlertUnit.rise
      split
      · rfl
      · simp [h.1]
  unfold State.reportAll
  obtain ⟨a1, a2⟩ := A f s hf
  obtain ⟨b1, b2⟩ := B r (f.foldl (fun (t : State) k => t.lower k) s) hr
  exact ⟨b1.trans a1, b2.trans a2⟩

/-- The changed part of a state after some reports is its Alert Unit. -/
theorem State.reportAll_eq (s : State) (falls rises : List AlertKey) :
    s.reportAll falls rises = { s with alerts := (s.reportAll falls rises).alerts } := by
  have h := (s.reportAll_touches falls rises).rebuild
  rw [h]; simp

/-! ## The demanded limit (R113, R115, R116) -/

/-- The least-valued of a list of limits is one of them and not above any. -/
theorem Params.least_spec (p : Params) (first : Limit) (rest : List Limit) :
    (∀ m ∈ first :: rest, p.value (p.least first rest) ≤ p.value m) ∧ p.least first rest ∈ first :: rest := by
  unfold Params.least
  induction rest generalizing first with
  | nil => simp
  | cons a t ih =>
    simp only [List.foldl_cons]
    by_cases h : p.value a < p.value first
    · rw [if_pos h]
      obtain ⟨i1, i2⟩ := ih a
      refine ⟨?_, ?_⟩
      · intro m hm
        simp at hm
        rcases hm with rfl | rfl | hm
        · have := i1 a (by simp); omega
        · exact i1 m (by simp)
        · exact i1 m (by simp [hm])
      · exact List.mem_cons_of_mem _ i2
    · rw [if_neg h]
      obtain ⟨i1, i2⟩ := ih first
      refine ⟨?_, ?_⟩
      · intro m hm
        simp at hm
        rcases hm with rfl | rfl | hm
        · exact i1 m (by simp)
        · have := i1 first (by simp); omega
        · exact i1 m (by simp [hm])
      · rcases List.mem_cons.mp i2 with h | h
        · rw [h]; simp
        · simp [h]

/-- The candidate within a ceiling: NL when its value is within it, else the largest Display Set member within it, or
the smallest member when none is (R115). -/
theorem Params.candidate_spec (p : Params) (ceiling : Nat) :
        (p.vtop + 10 ≤ ceiling → p.candidate ceiling = .nl) ∧
        (ceiling < p.vtop + 10 → p.displaySet ≠ [] → p.displaySet.Pairwise (· < ·) →
          ∃ v ∈ p.displaySet, p.candidate ceiling = .kmh v ∧
            ((∃ w ∈ p.displaySet, w ≤ ceiling) → v ≤ ceiling ∧ ∀ w ∈ p.displaySet, w ≤ ceiling → w ≤ v) ∧
            ((∀ w ∈ p.displaySet, ceiling < w) → ∀ w ∈ p.displaySet, v ≤ w)) := by
  unfold Params.candidate
  have hv : p.value .nl = p.vtop + 10 := rfl
  rw [hv]
  refine ⟨fun h => by rw [if_pos h], fun h hne hs => ?_⟩
  rw [if_neg (by omega)]
  cases hg : (p.displaySet.filter (· ≤ ceiling)).getLast? with
  | some v =>
    obtain ⟨h1, h2⟩ := getLast?_greatest _ (hs.filter _) v hg
    simp at h1 h2
    exact ⟨v, h1.1, rfl, fun _ => ⟨h1.2, h2⟩, fun q => absurd (q v h1.1) (by omega)⟩
  | none =>
    have : p.displaySet.filter (· ≤ ceiling) = [] := by simpa using hg
    rw [List.filter_eq_nil_iff] at this
    cases hd : p.displaySet with
    | nil => exact absurd hd hne
    | cons a t =>
      rw [hd] at this hs
      refine ⟨a, by simp, rfl, ?_, ?_⟩
      · rintro ⟨w, hw, hw2⟩; exact absurd (by simpa using hw2) (this w hw)
      · intro _ w hw
        rcases List.mem_cons.mp hw with rfl | hw
        · rfl
        · exact le_of_lt ((List.pairwise_cons.mp hs).1 w hw)

/-- The dwell decision always leaves a demanded limit (R116). -/
theorem GantryControl.settleDwell_demands (p : Params) (dw : Nat) (c : Limit) (x : GantryControl) : ∃ l, (x.settleDwell p dw c).demanded = some l := by
  unfold GantryControl.settleDwell
  dsimp only
  split
  · exact ⟨_, rfl⟩
  · rename_i l h
    split
    · exact ⟨l, h⟩
    · exact ⟨_, rfl⟩

/-! ## Aspects and legends (R127, R128, R143) -/

/-- The order of lowest cap, the earliest of equals, is the one whose legend counts (R143). -/
theorem lowestCapped_earliest (l : List LimitOrder) (before after : List LimitOrder) (o : LimitOrder)
    (h : l = before ++ o :: after) (h1 : ∀ p ∈ before, o.cap < p.cap) (h2 : ∀ p ∈ after, o.cap ≤ p.cap) :
    lowestCapped l = some o := by
  subst h
  unfold lowestCapped
  rw [List.foldl_append, List.foldl_cons]
  have A : ∀ (l : List LimitOrder) (b : LimitOrder), (∀ p ∈ l, b.cap ≤ p.cap) →
      l.foldl (fun best o => match best with
    | none => some o
    | some b => if o.cap < b.cap then some o else best) (some b) = some b := by
    intro l
    induction l with
    | nil => intro b _; rfl
    | cons a t ih =>
      intro b hb
      simp only [List.foldl_cons]
      have := hb a (by simp)
      rw [if_neg (by omega)]
      exact ih b (fun p hp => hb p (by simp [hp]))
  have B : ∀ (l : List LimitOrder) (best : Option LimitOrder), (∀ p ∈ l, o.cap < p.cap) → (∀ b ∈ best, o.cap < b.cap) →
      ∀ b ∈ l.foldl (fun best o => match best with
    | none => some o
    | some b => if o.cap < b.cap then some o else best) best, o.cap < b.cap := by
    intro l
    induction l with
    | nil => intro b _ h; exact h
    | cons a t ih =>
      intro b hb hbest
      simp only [List.foldl_cons]
      refine ih _ (fun p hp => hb p (by simp [hp])) ?_
      have := hb a (by simp)
      cases b with
      | none => simp; exact this
      | some b =>
        dsimp only
        split
        · simp; exact this
        · exact hbest
  have b := B before none h1 (by simp)
  generalize hq : before.foldl (fun best o => match best with
    | none => some o
    | some b => if o.cap < b.cap then some o else best) none = best at b
  cases best with
  | none => exact A after o h2
  | some x =>
    have := b x rfl
    dsimp only
    rw [if_pos this]
    exact A after o h2

/-- A merge toward a lane is a merge, or CLOSED for want of a target (R128). -/
theorem mergeToward_kinds (side : MergeSide) (l : Nat) (t : List Nat) :
    mergeToward side l t = .closed ∨ mergeToward side l t = .mergeNearside ∨ mergeToward side l t = .mergeOffside := by
  unfold mergeToward
  split
  · simp
  · dsimp only
    split
    · cases side <;> simp
    · split <;> simp

theorem State.contribution_kinds (c : RoadClosure) (g lane : Nat) (s : State) (a : Aspect)
    (h : s.contribution c g lane = some a) :
    a = .closed ∨ a = .mergeNearside ∨ a = .mergeOffside := by
  unfold State.contribution at h
  split at h
  · cases h
  · split at h
    · cases h; simp
    · split at h
      · cases h; exact mergeToward_kinds _ _ _
      · cases h

/-- An overlay aspect is CLOSED or a merge (R127). -/
theorem State.overlayAspect_kinds (g lane : Nat) (s : State) (a : Aspect) (h : s.overlayAspect g lane = some a) :
    a = .closed ∨ a = .mergeNearside ∨ a = .mergeOffside := by
  unfold State.overlayAspect at h
  dsimp only at h
  split at h
  · cases h; simp
  · have := List.mem_of_mem_head? h
    simp only [List.mem_filterMap] at this
    obtain ⟨id, _, h2⟩ := this
    cases hr : s.closures.road id with
    | none => simp [hr] at h2
    | some c => simp [hr] at h2; exact State.contribution_kinds _ _ _ _ _ h2

/-- The overlay aspects of a gantry do not depend on its own delivery record (R127, R128). -/
theorem State.overlayAspect_congr (g lane : Nat) (s t : State) (ht : t.tables = s.tables) (hc : t.closures = s.closures)
    (hd : ∀ h, h ≠ g → t.deliveryRec h = s.deliveryRec h) : t.overlayAspect g lane = s.overlayAspect g lane := by
  have : ∀ c, t.contribution c g lane = s.contribution c g lane := by
    intro c
    unfold State.contribution
    rw [ht]
    split
    · rfl
    · split
      · rfl
      · split
        · rename_i h
          have : t.openLanes c.effective = s.openLanes c.effective := by
            unfold State.openLanes
            rw [ht, hd _ (by omega)]
            simp [State.shoulder, hc]
          rw [this]
        · rfl
  unfold State.overlayAspect
  rw [hc]
  simp only [this]

/-! ## Placement (R146) -/

/-- A placement adds an entry, or updates the gantry's entry in place (R146). -/
theorem State.place_eq (s : State) (g : Nat) (cls : EntryClass) :
    s.place g cls = { s with composer := { s.composer with queue := (if ∃ e ∈ s.composer.queue, e.gantry = g then
       s.composer.queue.map (fun e => if e.gantry = g ∧ cls = .restrictive then { e with cls := .restrictive } else e)
       else s.composer.queue ++ [{ gantry := g, cls := cls }]) } } := by
  have : (s.inQueue g = true) ↔ ∃ e ∈ s.composer.queue, e.gantry = g := by
    simp [State.inQueue]
  show ({ s with composer := { s.composer with queue := if s.inQueue g = true then _ else _ } } : State) = _
  simp only [this]

/-! ## Effective sites (R125) -/

/-- The register after a settling: ids and shoulder orders as they were, the closures sited at the gantry settled. -/
theorem settledRegister (g : Nat) (s : State) (l : List Closure) :
   (l.map (fun c => match c.body with
    | .road r => if r.site = g then { c with body := .road (s.settleRoad r) } else c
    | .shoulder _ => c)).map Closure.id = l.map Closure.id ∧
   (l.map (fun c => match c.body with
    | .road r => if r.site = g then { c with body := .road (s.settleRoad r) } else c
    | .shoulder _ => c)).filterMap (fun c => match c.body with
    | .road _ => none
    | .shoulder o => some (c.slot, o)) = l.filterMap (fun c => match c.body with
    | .road _ => none
    | .shoulder o => some (c.slot, o)) ∧
   (l.map (fun c => match c.body with
    | .road r => if r.site = g then { c with body := .road (s.settleRoad r) } else c
    | .shoulder _ => c)).filterMap (fun c => match c.body with
    | .road r => some r
    | .shoulder _ => none) = (l.filterMap (fun c => match c.body with
    | .road r => some r
    | .shoulder _ => none)).map (fun r => if r.site = g then s.settleRoad r else r) := by
  induction l with
  | nil => simp
  | cons c t ih =>
    obtain ⟨i1, i2, i3⟩ := ih
    rcases c with ⟨i, n, b | b⟩
    · by_cases h : b.site = g
      · simp only [List.map_cons, List.filterMap_cons, h, if_true]
        exact ⟨by rw [i1], i2, by rw [i3]⟩
      · simp only [List.map_cons, List.filterMap_cons, if_neg h]
        exact ⟨by rw [i1], i2, by rw [i3]⟩
    · simp only [List.map_cons, List.filterMap_cons]
      exact ⟨by rw [i1], by rw [i2], i3⟩

/-- Settling the sites of a gantry changes the closures sited there and the flags of CLOSURE_UNPROTECTED alone. -/
theorem State.settleSites_spec (s : State) (g : Nat) :
   ∃ r a, s.settleSites g = { s with closures := { s.closures with register := r }, alerts := a } ∧
    (∀ k, k.kind ≠ .closureUnprotected →
        (k ∈ a.present ↔ k ∈ s.alerts.present) ∧ (k ∈ a.latched ↔ k ∈ s.alerts.latched)) ∧
    (s.settleSites g).closures.ids = s.closures.ids ∧
        (s.settleSites g).closures.shoulderOrders = s.closures.shoulderOrders ∧
        (s.settleSites g).closures.roads = s.closures.roads.map (fun r => if r.site = g then s.settleRoad r else r) := by
  unfold State.settleSites
  dsimp only
  rw [State.reportAll_eq]
  refine ⟨_, _, rfl, ?_, ?_, ?_, ?_⟩
  · intro k hk
    refine State.reportAll_other _ _ _ k ?_ ?_ <;>
    · rw [List.mem_map]
      rintro ⟨n, _, rfl⟩
      exact hk rfl
  · exact (settledRegister g s _).1
  · exact (settledRegister g s _).2.1
  · exact (settledRegister g s _).2.2

/-! ## The count of a close (R26) -/

/-- After a visit, the count of a close is owed as before, owed after one visit less, or taken. -/
theorem State.countVisited_cases (s : State) :
   ∃ m p o, s.countVisited = { s with modeControl := m, composer := { s.composer with pass := p }, countOwed := o } ∧
      (s.countOwed = none ∨ s.evaluationsAsked ≠ 0 →
        p = s.composer.pass ∧ m = s.modeControl ∧ o = s.countOwed) ∧
      ∀ n, s.countOwed = some n → s.evaluationsAsked = 0 →
        (1 < n → s.composer.pass ≠ none → p = s.composer.pass ∧ m = s.modeControl ∧ o = some (n - 1)) ∧
        (n ≤ 1 ∨ s.composer.pass = none → o = none ∧
          (s.mode ≠ .startup → p = s.composer.pass ∧ m = s.modeControl) ∧
          (s.mode = .startup → m.startupCount = s.modeControl.startupCount + 1 ∧
            (s.modeControl.startupCount + 1 < s.par.startupEvaluations → m.mode = .startup ∧ p = s.composer.pass) ∧
            (s.par.startupEvaluations ≤ s.modeControl.startupCount + 1 → m.mode = .active ∧ ∃ m,
              p = some m ∧ s.gantryCount - 1 ≤ m))) := by
  unfold State.countVisited
  cases ho : s.countOwed with
  | none => exact ⟨s.modeControl, s.composer.pass, none, by simp [← ho], by simp, by simp⟩
  | some n =>
    dsimp only
    by_cases he : s.evaluationsAsked ≠ 0
    · rw [if_pos he]
      exact ⟨s.modeControl, s.composer.pass, some n, by rw [← ho], by simp, fun _ _ h => absurd h he⟩
    · rw [if_neg he]
      by_cases hn : n ≤ 1 ∨ s.composer.pass = none
      · rw [if_pos hn]
        have hp : s.payCount = ({ s with countOwed := none } : State).countClose := by simp [State.payCount, ho]
        rw [hp]
        unfold State.countClose
        by_cases hm : s.mode = .startup
        · rw [if_pos (show (State.mode { s with countOwed := none }) = .startup from hm)]
          dsimp only
          split
          · rename_i h
            obtain ⟨h1, h2⟩ | ⟨h1, m, h2, h3, h4, h5⟩ :=
              State.requestPass_cases (State.lastGantry { s with countOwed := none })
                (State.setMode .active ({ s with
                  countOwed := none,
                  modeControl := { s.modeControl with startupCount := s.modeControl.startupCount + 1 } } : State))
            · exact absurd h1 (by simp [State.signing, State.setMode, State.mode])
            · refine ⟨_, _, _, h2, by simp [he], ?_⟩
              rintro k ⟨⟩ _
              refine ⟨fun a b => ?_, fun _ => ⟨rfl, fun h => absurd hm h, fun _ =>
                ⟨rfl, fun q => absurd q (Nat.not_lt.mpr h), fun _ => ⟨rfl, m, rfl, h3⟩⟩⟩⟩
              rcases hn with hn | hn
              · omega
              · exact absurd hn b
          · rename_i h
            refine ⟨{ s.modeControl with startupCount := s.modeControl.startupCount + 1 }, s.composer.pass, none,
              rfl, by simp [he], ?_⟩
            rintro k ⟨⟩ _
            refine ⟨fun a b => ?_, fun _ => ⟨rfl, fun h => absurd hm h, fun _ =>
              ⟨rfl, fun q => ⟨hm, rfl⟩, fun q => absurd q h⟩⟩⟩
            rcases hn with hn | hn
            · omega
            · exact absurd hn b
        · rw [if_neg (show ¬ (State.mode { s with countOwed := none }) = .startup from hm)]
          refine ⟨s.modeControl, s.composer.pass, none, rfl, by simp [he], ?_⟩
          rintro k ⟨⟩ _
          refine ⟨fun a b => ?_, fun _ => ⟨rfl, fun _ => ⟨rfl, rfl⟩, fun h => absurd h hm⟩⟩
          rcases hn with hn | hn
          · omega
          · exact absurd hn b
      · rw [if_neg hn]
        refine ⟨s.modeControl, s.composer.pass, some (n-1), rfl, by simp [he], ?_⟩
        rintro k ⟨⟩ _
        exact ⟨fun _ _ => ⟨rfl, rfl, rfl⟩, fun h => absurd h hn⟩

end Sys2Proof.Machine
end

