-- ==== Sys2Proof/Tests/Slice0.lean ====
section
/-! SUPPORT. The model's own tests: ill-formed commands refused, the bytes of chapter 12, one step of each command,
and for each obligation with hypotheses a state that meets them. Expected values come from the rules cited. -/

namespace Sys2Proof.Tests

open Sys2Proof.Machine

-- One theorem after another: many at once, each waiting for the kernel, would need a thread each.
set_option Elab.async false

/-! ## Well-formed commands -/

/-- A frame holds at least one byte (R180). -/
theorem test_wf_empty_frame : Instr.wellFormed (.frameEnd .one false [] .choiceFirst) = false := by decide
theorem test_wf_frame : Instr.wellFormed (.frameEnd .two true [0] .ordersFirst) = true := by decide
/-- Gantries are 0 to 31 (R9). -/
theorem test_wf_dwell_gantry_32 : Instr.wellFormed (.dwellTimerExpiry 32) = false := by decide
theorem test_wf_dwell_gantry_31 : Instr.wellFormed (.dwellTimerExpiry 31) = true := by decide
theorem test_wf_refresh_gantry_32 : Instr.wellFormed (.refreshTimeReached 32) = false := by decide
/-- Closure Register slots are 0 to 11 (R119). -/
theorem test_wf_slot_12 : Instr.wellFormed (.mergeHoldExpiry 12) = false := by decide
theorem test_wf_slot_11 : Instr.wellFormed (.mergeHoldExpiry 11) = true := by decide
/-- No row of the opcode table gives bits, so no word spells a command. -/
theorem test_no_word_spells_a_command : (List.range 16).all (fun w => decodeTableWord 8 w = none) = true := by decide

/-! ## States for the tests -/

/-- The part after the release of the reset input, straps low. -/
def up : State := { State.reset with resetAsserted := false }

/-- A Segment Parameters record within the ranges of R5 and R7. -/
def params : Params :=
  { intervalLength := 20, evaluationOffset := 10, replyTimeout := 5, lateGuard := true, guardGap := 2, step := 20,
    displaySet := [40, 60, 80, 100], faultPersistence := 2, plausibilityThreshold := 1, stoppedOccupancy := 400,
    clearOccupancy := 100, startupEvaluations := 2, refreshTime := 120, mergeHold := 30, centreLossLimit := 5 }

/-- A station with an instrumented shoulder and two running lanes. -/
def station : StationDesc :=
  { address := 11, spacing := 450, laneCount := 3, shoulder := true, governing := 2, weight := 4, hold := 3 }

/-- A gantry with a shoulder signal and three running lanes. -/
def gantry (address : Nat) : GantryDesc :=
  { address := address, lanes := 3, shoulder := true, gmax := .nl, dwell := 60, window := [0], side := .nearside,
    cascadeBreak := false, fallback := 1, startupLimit := .kmh 80, unsupportedHold := 2 }

/-- One band. -/
def band : BandDesc := { von := 80, voff := 90, oon := 300, ooff := 250, limit := 60, legend := .congestion }

/-- A segment of one station and three gantries. -/
def tables : Tables :=
  { params := [some params], stations := [some station],
    gantries := [some (gantry 21), some (gantry 22), some (gantry 23)], bands := [some band],
    cycle := [some (.station 0), some .centre, some .command, some .spare] }

/-- The segment in a mode, with no request out. -/
def inMode (m : Mode) : State :=
  { up with
    modeControl := { mode := m, tableChecked := true, startupCount := 0 },
    tables := tables,
    sequencer := { up.sequencer with idleWait := none, intervalTimer := some 20000 } }

/-- An opened shoulder at gantry 0, in slot 1. -/
def opened : Closure :=
  { id := 2, slot := 1,
    body := .shoulder { firstGantry := 0, lastGantry := 0, phase := .opened, front := none, mergeHold := none } }

/-- An ACTIVE segment that holds a lane closure at gantry 2, an opened shoulder at gantry 0 and a limit order, each
gantry visited. -/
def busy : State :=
  let s1 := ((inMode .active).closeRoad 1 2 (some [1]) 60).1
  let s2 := (s1.limitSet 3 0 1 80 (some .roadworks)).1
  let s3 := (s2.setRegister (s2.closures.register ++ [opened])).setShoulder 0 .opened
  ((s3.visit 2).visit 1).visit 0

/-- The next state of a command. -/
def after (c : Instr) (s : State) : State :=
  match exec c s with
  | .next t => t
  | .fault _ => s
  | .refused _ => s

/-- Requests to the test segment's station, trunk and first sign driver. -/
def ivr : Request := { kind := .ivr, address := 11, payload := [7], slot := some 0, fate := .judge }
def cxe : Request := { kind := .cxe, address := 1, payload := [4, 0], slot := none, fate := .judge }
def sgs : Request := { kind := .sgs, address := 21, payload := [], slot := some 2, fate := .judge }
def mark : Request := { kind := .mark, address := 127, payload := [7, 20], slot := none, fate := .judge }

/-- The exchange a request starts, as it awaits its reply. -/
def exchange (r : Request) : Exchange := (inMode .standby).newExchange r

/-- A state with an exchange awaiting its reply. -/
def awaiting (r : Request) (s : State) : State := s.setPhase (.awaiting (exchange r))

/-- A state with a held request. -/
def holding (r : Request) (s : State) : State := { s with link := { s.link with held := some r } }

/-- A reply frame of R180. -/
def reply (address kind tag status : Byte) (payload : List Byte) : List Byte :=
  let body := [address, kind, tag, status, byteOf payload.length] ++ payload
  body ++ twoBytes (crcOf body)

/-- The end of a centre exchange with a reply, as handed on. -/
def handed (payload : List Byte) (s : State) : State :=
  { s with centre := { s.centre with unsettled := some (.received payload), carried := some { Carried.nothing with credit := 4 } } }

/-! ## The bytes of chapter 12 -/

/-- The published check value of the CRC of R180 over the nine digits. -/
theorem test_crc_check_value : crcOf [0x31, 0x32, 0x33, 0x34, 0x35, 0x36, 0x37, 0x38, 0x39] = 0x29B1 := by decide +kernel
/-- R30, R180: address, kind, tag and length come first. -/
theorem test_mark_frame_header : (requestFrame mark 5).take 6 = [127, 1, 5, 2, 7, 20] := by decide +kernel
/-- R181: aspect codes. -/
theorem test_aspect_codes : [Aspect.limit 20, .limit 120, .nlEnd, .closed].map Aspect.code = [18, 28, 1, 2] := by decide
/-- R182: a code outside the table is UNREADABLE. -/
theorem test_unreadable_codes : [5, 17, 29].map displayedOf = [.unreadable, .unreadable, .unreadable] := by decide
/-- R185: a reply that states more orders than its credit, or runs past its end, gives the whole messages before. -/
theorem test_messages_cut : (readMessages 4 [1, 3, 0, 2, 8, 2, 0]).map OrderMessage.message = [1] := by decide +kernel
/-- R184, R185: LIMIT SET with a cap byte above 250, and ORDER CLEAR. -/
theorem test_reads_limit_set : readOrder { message := 9, kind := 9, body := [0, 7, 1, 2, 255, 6] } =
    .order .limitSet (.limitSet 7 1 2 250 (some .roadworks)) := by decide +kernel
/-- R179, R184: bits 6 and 7 of a lane set, which name no lane, are ignored. -/
theorem test_reads_lane_close : readOrder { message := 9, kind := 5, body := [0, 7, 2, 0xE2, 60] } =
    .order .laneClose (.laneClose 7 2 [1, 5] 60) := by decide +kernel
/-- R171: an unknown order code. -/
theorem test_reads_unknown_order : readOrder { message := 9, kind := 18, body := [] } = .refuse .unknown := by decide +kernel
/-- R9, R184: a Gantry Map record of 11 bytes. -/
theorem test_reads_gantry : readGantry [21, 0x0B, 255, 0, 60, 0, 255, 255, 1, 80, 2] = .inl (gantry 21) := by decide +kernel
/-- R3, R183: the spacing is the second field of a Station Table record. -/
theorem test_reads_bad_station : readStation [11, 0, 99, 3, 0, 4, 3] = .inr 2 := by decide +kernel
theorem test_tables_pass_the_check : tables.crossCheck 1 = none := by decide +kernel
/-- R13, R183: the trunk address repeats the station's: ADDRESS, item 20, section 2, record 0. -/
theorem test_check_address : tables.crossCheck 11 = some (20, 2, 0) := by decide +kernel

/-! ## Worked values of the manual's notes -/

/-- The note on R88: with nL of 40 an nG of 35 raises nothing and an nG of 34 does. -/
theorem test_pair_mismatch_note :
    [35, 34].map (fun nG => pairMismatch { nL := 40, nG := nG, p := 30, tsum := 0, oms := 0 }) = [false, true] := by decide
/-- The note on R88: with nL of 7 or less a difference of 2 is tolerated. -/
theorem test_pair_mismatch_small :
    [5, 4].map (fun nG => pairMismatch { nL := 7, nG := nG, p := 4, tsum := 0, oms := 0 }) = [false, true] := by decide
/-- The note on R108, with its Display Set: 75 is held as 60, and 30 as 40 with ACCEPTED_CLAMPED. -/
theorem test_cap_note : [75, 30].map ({ params with displaySet := [40, 60, 80, 100, 120] } : Params).settleCap =
    [(60, false), (40, true)] := by decide
/-- R115: a ceiling of 70 gives 60, one below every member the smallest, and Vtop + 10 NL. -/
theorem test_candidates : [70, 39, 109, 110].map params.candidate = [.kmh 60, .kmh 40, .kmh 100, .nl] := by decide

/-! ## One step of each command -/

/-- R17: back to UNCONFIGURED; the queue of commands stands. -/
theorem test_hardwareReset : (after .hardwareReset { busy with pending := [.guardGapElapsed] }).mode = .unconfigured ∧
    (after .hardwareReset { busy with pending := [.guardGapElapsed] }).pending = [.guardGapElapsed] := by decide +kernel
/-- R187: trunk straps of 0 or above 120 are read as 1, and a high path-mode strap gives SINGLE. -/
theorem test_resetRelease : [0, 1, 120, 121, 127].map (fun n => (after (.resetRelease 0 n true) State.reset).straps.trunkAddress)
    = [1, 1, 120, 1, 1] ∧ (after (.resetRelease 0 0 true) State.reset).link.pathMode = .single := by decide +kernel
/-- R30: the tag after 15 is 0. -/
theorem test_transmissionStart : (after .transmissionStart
    { holding ivr up with link := { (holding ivr up).link with nextTag := 15 } }).link.nextTag = 0 := by decide +kernel
/-- R60: the evaluation timer starts with E = 10 s. -/
theorem test_endOfTransmission : (after .endOfTransmission
    ((inMode .standby).setPhase (.sending (exchange mark)))).sequencer.evaluationTimer = some 10000 := by decide +kernel
/-- An IVR in AWAITING for interval 0, with path 1's frame arriving. -/
def polled : State :=
  let s1 := awaiting ivr (inMode .standby)
  let s2 : State := { s1 with sequencer := { s1.sequencer with evaluationTimer := some 1000 } }
  s2.setReceiving .one (some .belongs)
/-- A lane of 10 vehicles with 16200 ms of transit and 4000 ms of occupancy. -/
def laneBytes : List Byte := [10, 10, 10, 0, 63, 72, 15, 160]
/-- R71 to R76: 360 * 450 * 10 / 16200 = 100 km/h, 4000 / 20 = 200 permille, S = 16 * 100. -/
theorem test_frameEnd_taking :
    let r := (after (.frameEnd .one false (reply 11 2 0 0 ([1, 0] ++ laneBytes ++ laneBytes ++ laneBytes)) .choiceFirst)
      polled).stationRec 0
    r.taken = true ∧ r.speed = some 100 ∧ r.occupancy = 200 ∧ r.smoothed = 1600 := by decide +kernel
/-- R149: the third failed attempt makes the gantry FAILED. -/
theorem test_frameEnd_failed_sign :
    ((((inMode .active).setDelivery 0 { DeliveryRec.reset with state := .awaiting, attempts := 2 }).judgeSgs 0 none true).deliveryRec 0).state
      = .failed := by decide +kernel
/-- R35, R38: a TIMEOUT with Late Guard enabled leads to GUARD with the guard gap of 2 ms. -/
theorem test_replyTimeout : (after (.replyTimeout .choiceFirst) (awaiting ivr (inMode .standby))).link.phase = .guarding 2 2 := by
  decide +kernel
/-- R38. -/
theorem test_guardGapElapsed : (after .guardGapElapsed ((inMode .standby).setPhase (.guarding 2 0))).link.phase = .idle := by
  decide +kernel
/-- R64, R183: credit 4 and no report message. -/
theorem test_builtInIdleWaitExpiry : (after .builtInIdleWaitExpiry up).link.held = some cxe := by decide +kernel
/-- R59: interval 255 is followed by 0. -/
theorem test_intervalTimerExpiry : (after (.intervalTimerExpiry .countFirst)
    { inMode .standby with sequencer := { (inMode .standby).sequencer with interval := 255 } }).sequencer.interval = 0 := by
  decide +kernel
/-- R26: the second close of a startup of 2 evaluations leads to ACTIVE. -/
theorem test_evaluationTimerExpiry : (after (.evaluationTimerExpiry .countFirst)
    { inMode .startup with sequencer := { (inMode .startup).sequencer with evaluationTimer := some 0 },
                           modeControl := { mode := .startup, tableChecked := true, startupCount := 1 } }).mode = .active := by
  decide +kernel
/-- R26, its second case: the visit of the evaluation's pass runs in STARTUP, with the startup limit of 80, and the
count after it leads to ACTIVE with a pass from the most downstream gantry. -/
def owing (visits pass : Nat) : State :=
  { inMode .startup with countOwed := some visits, modeControl := { mode := .startup, tableChecked := true, startupCount := 1 },
                         composer := { (inMode .startup).composer with pass := some pass } }
theorem test_count_after_a_visit :
    let t := after .compositionPassVisit (owing 1 1)
    (t.gantryControl 1).demanded = some (.kmh 80) ∧ t.mode = .active ∧ t.composer.pass = some 2 := by decide +kernel
/-- R26: the count waits no longer than the pass. -/
theorem test_count_at_the_end_of_the_pass :
    let t := after .compositionPassVisit (owing 9 0)
    t.mode = .active ∧ t.composer.pass = some 2 := by decide +kernel
/-- R80, R83, R186: before its record is loaded a station holds no condition, nor does a gantry (R104, R118). -/
def unloaded : State := { up with tables := { Tables.empty with stations := [none], gantries := [none] } }
theorem test_query_before_a_record :
    (((unloaded.queryStation 0).items.getD [])[17]?) = some 0 ∧ (((unloaded.queryGantry 0).items.getD [])[4]?) = some 0 := by
  decide +kernel
/-- R102: at the unsupported hold of 2 the band becomes the fallback band 1. -/
theorem test_bandEvaluation :
    let c := (after .bandEvaluation ({ (inMode .active).setControl 1 { GantryControl.reset with unsupported := 1 } with
      evaluationsAsked := 1 })).gantryControl 1
    c.band = 1 ∧ c.unsupported = 2 := by decide +kernel
/-- R97, R169: the waiting result takes the next report number. -/
theorem test_waitingResultOffer :
    (after .waitingResultOffer { inMode .standby with waiting := [⟨0, 1, .ok, 0, 3⟩] }).centre.queue =
      [{ number := 0, body := .injectionResult ⟨0, 1, .ok, 0, 3⟩, offset := 0 }] := by decide +kernel
/-- R19, R166, R168: a MODE RUN order in STANDBY is carried out and answered in STARTUP. -/
theorem test_centreExchangeReceived :
    let t := after .centreExchangeReceived (handed [1, 5, 1, 1, 1] (inMode .standby))
    t.mode = .startup ∧ t.centre.queue.map Report.body =
      [.orderResponse { message := 5, kind := .modeOrder, verdict := .accepted, detail := .absent, mode := .startup }] := by
  decide +kernel
/-- R165: the fifth failure in a row loses the link. -/
theorem test_centreExchangeFailed :
    let t := after .centreExchangeFailed { inMode .standby with
      centre := { (inMode .standby).centre with unsettled := some .failed, failures := 4 } }
    t.centre.link = .lost ∧ t.alerts.present = [centreLostKey] := by decide +kernel
/-- R115: the governor at 40 and a Step of 20 give 60, though the band asks for no limit. -/
theorem test_compositionPassVisit :
    ((after .compositionPassVisit ({ (inMode .active).setControl 2 { GantryControl.reset with demanded := some (.kmh 40) } with
      composer := { (inMode .active).composer with pass := some 1 } })).gantryControl 1).demanded = some (.kmh 60) := by
  decide +kernel
/-- R125, R129: the closure's site shows CLOSED on its lane, and its cap of 60 on another. -/
theorem test_busy_site_aspects : busy.demandedAspect 2 1 = some .closed ∧ busy.demandedAspect 2 2 = some (.limit 60) := by
  decide +kernel
/-- R117: the expiry with a pending increase requests a pass from the gantry. -/
theorem test_dwellTimerExpiry : (after (.dwellTimerExpiry 1) ((inMode .active).setControl 1
    { GantryControl.reset with demanded := some (.kmh 60), pendingIncrease := true })).composer.pass = some 1 := by decide +kernel
/-- A shoulder order over gantries 0 to 1 in CLOSING, at its front 0 with gantry 1 still OPEN. -/
def closingOrder : ShoulderOrder :=
  { firstGantry := 0, lastGantry := 1, phase := .closing, front := some 0, mergeHold := some 0 }
def closing : State :=
  (((inMode .active).setRegister [{ id := 2, slot := 3, body := .shoulder closingOrder }]).setShoulder 0 .merge).setShoulder
    1 .opened
/-- R138: the front's shoulder closes and the next OPEN gantry downstream becomes the front. -/
theorem test_mergeHoldExpiry : (after (.mergeHoldExpiry 3) closing).shoulder 0 = .closed ∧
    (after (.mergeHoldExpiry 3) closing).shoulder 1 = .merge := by decide +kernel
/-- A gantry that holds a demand, with 120 s since its last SET. -/
def shown : State := (inMode .active).setDelivery 1
  { DeliveryRec.reset with demanded := some { aspects := [], legend := .blank }, sinceSet := some 120000 }
/-- R152: placed as ordinary. -/
theorem test_refreshTimeReached : (after (.refreshTimeReached 1) shown).composer.queue = [{ gantry := 1, cls := .ordinary }] := by
  decide +kernel
/-- R37: a frame that starts in IDLE is late. -/
theorem test_frameStart : (after (.frameStart .two) up).link.receiving.two = some .late := by decide +kernel

/-! ## States that meet the hypotheses of the obligations, clause by clause -/

theorem witness_StepRunsFrontCommand : ({ up with pending := [.guardGapElapsed] } : State).pending = .guardGapElapsed :: [] := rfl

theorem witness_EmptyQueuePassesOneMillisecond :
    (State.reset.pending = [] ∧ State.reset.resetAsserted = true) ∧
    (∃ x, (awaiting ivr (inMode .standby)).pending = [] ∧ (awaiting ivr (inMode .standby)).resetAsserted = false ∧
      (awaiting ivr (inMode .standby)).link.phase = .awaiting x) ∧
    (∃ gap n, (up.setPhase (.guarding 10 0)).link.phase = .guarding gap n) ∧
    (up.pending = [] ∧ up.resetAsserted = false ∧ up.link.phase = .idle) ∧
    ∃ x, (up.setPhase (.sending (exchange ivr))).link.phase = .sending x :=
  ⟨⟨rfl, rfl⟩, ⟨_, rfl, rfl, rfl⟩, ⟨_, _, rfl⟩, ⟨rfl, rfl, rfl⟩, ⟨_, rfl⟩⟩

theorem witness_ResetReleaseReadsStraps :
    State.reset.resetAsserted = true ∧
    ((⟨0, 1⟩ : Straps).rate = 0 ∧ (⟨1, 1⟩ : Straps).rate = 1 ∧ (⟨2, 1⟩ : Straps).rate = 2 ∧ (⟨3, 1⟩ : Straps).rate = 3) ∧
    ∃ t, exec .transmissionStart up = .next t ∧ up.resetAsserted = false :=
  ⟨rfl, ⟨rfl, rfl, rfl, rfl⟩, _, rfl, rfl⟩

theorem witness_TransmissionStarts :
    ((holding ivr up).resetAsserted = false ∧ (holding ivr up).link.held = some ivr ∧ (holding ivr up).link.arriving = false ∧
      (holding ivr up).link.phase = .idle) ∧
    (let s := (holding ivr up).setPhase (.guarding 2 0)
     s.resetAsserted = false ∧ s.link.held = some ivr ∧ s.link.arriving = false ∧ s.link.phase = .guarding 2 0) ∧
    (let s := up.setPhase (.guarding 1 1)
     s.resetAsserted = false ∧ s.link.held = none ∧ s.link.arriving = false ∧ s.link.phase = .guarding 1 1) := by
  decide +kernel

theorem witness_TransmissionEnds :
    (let s := up.setPhase (.sending (exchange ivr))
     s.resetAsserted = false ∧ s.link.phase = .sending (exchange ivr) ∧ ivr.kind ≠ .mark) ∧
    (let s := (inMode .standby).setPhase (.sending (exchange mark))
     s.resetAsserted = false ∧ s.link.phase = .sending (exchange mark) ∧ mark.kind = .mark ∧ mark.fate = .judge ∧
       s.configured = true ∧ s.centre.unsettled = none) := by decide +kernel

/-- The segment link in SINGLE mode on path 1. -/
def single : State := { up with link := { up.link with pathMode := .single, decodeMode := .single } }

theorem witness_FrameStartIsSeen :
    (single.resetAsserted = false ∧ single.link.decodes .two = false) ∧
    (up.resetAsserted = false ∧ up.link.decodes .two = true ∧ up.link.receiving.get .two = none) ∧
    (let s := awaiting ivr (inMode .standby)
     s.resetAsserted = false ∧ s.link.decodes .one = true ∧ s.link.receiving.get .one = none ∧
       s.link.phase = .awaiting (exchange ivr) ∧ (exchange ivr).expired = false) := by decide +kernel

theorem witness_FailedFrameIsTheCopy :
    polled.resetAsserted = false ∧ polled.link.phase = .awaiting (exchange ivr) ∧ (exchange ivr).decodes .one = true ∧
    (exchange ivr).waitingCheck = false ∧ (exchange ivr).expired = false ∧
    polled.link.receiving.get .one = some .belongs ∧ (exchange ivr).copies.get .one = .silent ∧
    frameSound false [0] = false ∧ frameSound false (reply 12 2 0 0 []) = true ∧
    echoes (exchange ivr).ident (reply 12 2 0 0 []) = false := by decide +kernel

/-- A late frame arriving on path 2 after a centre exchange. -/
def late : State :=
  { up with link := { up.link with receiving := { one := none, two := some .late }, lastExchange := some (exchange cxe).ident } }

theorem witness_LateFrameIsAStray :
    late.resetAsserted = false ∧ late.link.phase = .idle ∧ late.link.decodes .two = true ∧
    late.link.receiving.get .two = some .late ∧ late.link.lastExchange = some (exchange cxe).ident ∧ late.alerts.Wf := by
  decide +kernel

theorem witness_GoodReplyEndsTheExchange :
    let x := exchange cxe
    let s := (awaiting cxe up).setReceiving x.receive (some .belongs)
    s.resetAsserted = false ∧ s.mode = .unconfigured ∧ s.link.phase = .awaiting x ∧ x.request.kind = .cxe ∧
    x.waitingCheck = false ∧ (x.copies.get x.receive).isValid = false ∧
    s.link.receiving.get x.receive = some .belongs ∧ s.link.receiving.get (otherPath x.receive) = none ∧
    s.centre.unsettled = none ∧ classify x.ident false (reply 1 5 0 0 [0]) = .valid ∧
    s.link.counters.exchanges < 65535 := by decide +kernel

theorem witness_SilentTimeoutEndsTheExchange :
    let x := exchange cxe
    let s := awaiting cxe up
    let full : State := { s with link := { s.link with counters := { s.link.counters with exchanges := 65535 } } }
    s.resetAsserted = false ∧ s.mode = .unconfigured ∧ s.link.phase = .awaiting x ∧ x.request.kind = .cxe ∧
    x.expired = false ∧ x.copies = { one := .silent, two := .silent } ∧
    s.link.receiving = { one := none, two := none } ∧ s.centre.unsettled = none ∧ s.alerts.Wf ∧
    s.link.counters.exchanges < 65535 ∧ full.link.phase = .awaiting x ∧ full.link.counters.exchanges = 65535 := by
  decide +kernel

/-- The exchange with given copies. -/
def copied (one two : Copy) : Exchange := { exchange ivr with copies := { one := one, two := two } }
/-- A copy handed on. -/
def good : Copy := .valid { status := 0, payload := [0] }

theorem witness_OutcomeOfTheCopies :
    ({ exchange ivr with mode := .single } : Exchange).mode = .single ∧
    (copied good .silent).result .one = .valid ∧
    ((copied .wrong good).result .one ≠ .valid ∧ (copied .wrong good).result .one ≠ .absent ∧
      (copied .wrong good).result .two = .valid) ∧
    ((copied .silent .silent).result .one = .silent ∧ (copied .silent .silent).result .two = .silent) ∧
    ((copied .bad .silent).result .one = .bad ∧ (copied .bad .silent).result .two ≠ .valid) ∧
    ((copied .silent .bad).result .one = .silent ∧ (copied .silent .bad).result .two = .bad) ∧
    ((copied good .silent).request = (copied .bad good).request ∧ (copied good .silent).taken = (copied .bad good).taken) := by
  decide +kernel

theorem witness_PathForceMovesTheReceivePath :
    (1 = pathNumber .one ∧ 2 = pathNumber .two) ∧ (0 ≠ 1 ∧ 0 ≠ 2 ∧ 3 ≠ 1 ∧ 3 ≠ 2) ∧
    (up.link.pathMode = .dual ∧ (copied .silent good).mode = .dual ∧ (copied .silent good).receive = .one ∧
      ((copied .silent good).copies.get .one).isValid = false ∧
      ((copied .silent good).copies.get (otherPath .one)).isValid = true) := by decide +kernel

/-- Path 1 one non-VALID copy short of PATH_DOWN, and the check run one short of 16. -/
def nearlyDown : State := { up with link := { up.link with nonValid := { one := 15, two := 16 }, checkRun := 15 } }

theorem witness_PathStateSettles :
    (copied .silent good).mode = .dual ∧ nearlyDown.link.pathMode = .dual ∧ nearlyDown.link.checkRun ≤ 16 ∧
    nearlyDown.link.nonValid.get .one ≤ 16 ∧ nearlyDown.link.nonValid.get .two ≤ 16 := by decide +kernel

theorem witness_ReplyFramesAreRead :
    (List.replicate 60 (0 : Byte)).length ≤ 60 ∧ ([] : List Byte).length ≤ 60 ∧
    (11 = (exchange ivr).ident.address ∧ 2 = (exchange ivr).ident.kind.code ∧ 0 = (exchange ivr).ident.tag) := by
  decide +kernel

theorem witness_IdleWaitSendsACentreRequest :
    up.resetAsserted = false ∧ up.sequencer.idleWait.isSome = true ∧ up.centre.unsettled = none := by decide +kernel

/-- The segment in a mode with its interval open. -/
def opened1 (m : Mode) : State := { inMode m with sequencer := { (inMode m).sequencer with evaluationTimer := some 0 } }

theorem witness_IntervalTimerAdvancesTheInterval :
    ((inMode .standby).resetAsserted = false ∧ (inMode .standby).sequencer.intervalTimer.isSome = true ∧
      (inMode .standby).sequencer.evaluationTimer = none) ∧
    ((opened1 .standby).resetAsserted = false ∧ (opened1 .standby).sequencer.intervalTimer.isSome = true ∧
      (opened1 .standby).sequencer.evaluationTimer.isSome = true) := by decide +kernel

theorem witness_EvaluationTimerClosesTheInterval :
    (List.all [Mode.standby, .startup, .active] (fun m => decide ((opened1 m).resetAsserted = false ∧
      (opened1 m).sequencer.evaluationTimer.isSome = true ∧ (opened1 m).countOwed = none ∧ (opened1 m).mode = m ∧
      0 < (opened1 m).stationCount ∧ 0 < (opened1 m).stations.length)) = true) ∧
    (0 ∈ (tables.station 0).laneList ∧ 0 < ((opened1 .standby).stationRec 0).lanes.length) ∧
    (opened1 .startup).alerts.Wf ∧ (opened1 .startup).tables = tables ∧
    (CountOrder.countFirst = .countFirst ∧ CountOrder.evaluationFirst 0 = .evaluationFirst 0) := by decide +kernel

theorem witness_WalkReachesARequest :
    let s := { inMode .standby with sequencer := { (inMode .standby).sequencer with position := 3 } }
    s.sequencer.position < s.tables.cycle.length ∧
    (∃ i < s.tables.cycle.length, s.tables.cycle[i]? = some (some .centre) ∨ s.tables.cycle[i]? = some (some .command)) := by
  decide +kernel

/-- A run of two takings. -/
def run : InjectionRun :=
  { values := ⟨1, 1, 1, 1000, 0⟩, remaining := 2, takings := 0, saved := .empty, test := .empty }

/-- A lane record after a taking with some values. -/
def taken (v : LaneValues) : LaneRec := takeLane params station v .empty

/-- A Station Record whose lanes were taken with some values. -/
def stationOf (v : LaneValues) : StationRec :=
  { StationRec.empty with lanes := List.replicate 6 (taken v), seeded := true, smoothed := 1600, stale := 2 }

theorem witness_LaneAndStationArithmetic :
    (LaneRec.empty.run = none ∧ 1 ≤ (⟨1, 1, 1, 1, 0⟩ : LaneValues).p ∧ 1 ≤ (⟨1, 1, 1, 1, 0⟩ : LaneValues).tsum ∧
      (⟨1, 1, 0, 1, 0⟩ : LaneValues).p = 0 ∧ station.spacing ≤ 1000 ∧ (⟨0, 0, 255, 0, 0⟩ : LaneValues).p ≤ 255) ∧
    ({ LaneRec.empty with run := some run } : LaneRec).run = some run ∧
    ((stationOf ⟨1, 1, 1, 1000, 0⟩).reduce params station).speed = some 162 ∧
    ((stationOf ⟨0, 0, 0, 0, 8000⟩).reduce params station).speed = some 0 ∧
    ((stationOf ⟨0, 0, 0, 0, 7999⟩).reduce params station).speed = none ∧
    ((stationOf ⟨1, 1, 1, 0, 0⟩).reduce params station).speed = none := by decide +kernel

theorem witness_SmoothingMovesTowardTheInput :
    ((stationOf ⟨0, 0, 0, 0, 0⟩).reduce params station).speed = none ∧
    (((stationOf ⟨1, 1, 1, 1000, 0⟩).reduce params station).speed = some 162 ∧ (stationOf ⟨1, 1, 1, 1000, 0⟩).seeded = true) ∧
    ({ stationOf ⟨1, 1, 1, 1000, 0⟩ with seeded := false } : StationRec).seeded = false ∧
    (4000 ≤ 4000 ∧ 0 ≤ 250 ∧ 1 ≤ 1 ∧ 1 ≤ 8 ∧ 16 * 0 ≤ 4000) ∧ (0 ≤ 4000 ∧ 250 ≤ 250 ∧ 1 ≤ 8 ∧ 8 ≤ 8 ∧ 0 ≤ 16 * 250) ∧
    (smooth 1607 100 1 = 1607 ∧ smooth 1593 100 1 = 1593) := by decide +kernel

theorem witness_ValidForControl :
    (station.hold ≤ 10 ∧ (stationOf ⟨0, 0, 0, 0, 0⟩).taken = false ∧ (stationOf ⟨0, 0, 0, 0, 0⟩).valid station = true) ∧
    (1 ≤ station.hold ∧ (stationOf ⟨0, 0, 0, 0, 0⟩).seeded = true ∧
      1 ≤ ((stationOf ⟨0, 0, 0, 0, 0⟩).reduce params station).usable) ∧
    (let r := { stationOf ⟨0, 0, 0, 0, 0⟩ with lanes := List.replicate 6 { taken ⟨0, 0, 0, 0, 0⟩ with test := true } }
     (r.reduce params station).usable = 0 ∧ r.valid station = true) := by decide +kernel

/-- Another lane of the station: quiet, or with ten vehicles. -/
def quietLane : LaneReading := { lane := 2, occupancy := 149, count := 0, test := false, excluded := false, health := .ok }
def busyLane : LaneReading := { quietLane with occupancy := 150, count := 10 }

theorem witness_LaneHealthSettles :
    (stuckOn 950 1 [quietLane] = true ∧ stuckOn 949 1 [quietLane] = false ∧ stuckOn 950 1 [busyLane] = false) ∧
    (silentLane 0 0 [busyLane] = true ∧ silentLane 0 0 [quietLane] = false) ∧
    (pairMismatch ⟨10, 7, 0, 0, 0⟩ = true ∧ pairMismatch ⟨10, 8, 0, 0, 0⟩ = false) ∧
    (implausible ⟨0, 0, 1, 0, 0⟩ none 0 = true ∧ implausible ⟨1, 1, 1, 0, 0⟩ (some 200) 0 = false) ∧
    HealthContext.empty.health ≠ .fault ∧
    (params.faultPersistence ≤ 1 + 1 ∧ 0 + 1 < params.faultPersistence ∧ 1 + 1 < 3 ∧ 3 ≤ 2 + 1) := by decide +kernel

theorem witness_WaitingResultsAreOffered :
    (inMode .standby).resetAsserted = false ∧ ({ Centre.reset with nextReport := 65535 } : Centre).nextReport < 65536 := by
  decide +kernel

theorem witness_BandSettles :
    (tables.highestOnset 79 0 = 1 ∧ tables.highestOnset 80 299 = 0 ∧ tables.highestOnset 80 300 = 1) ∧
    (band.release 90 249 = true ∧ band.release 89 249 = false ∧ band.release 90 250 = false) := by decide +kernel

/-- An evaluation asked for in a mode. -/
def asked (m : Mode) : State := { inMode m with evaluationsAsked := 1 }
/-- The same with the station seeded. -/
def supported : State := (asked .active).setStation 0 (stationOf ⟨0, 0, 0, 0, 0⟩)

theorem witness_BandsAreEvaluated :
    ((asked .standby).resetAsserted = false ∧ (asked .standby).evaluationsAsked = 0 + 1 ∧ (asked .standby).countOwed = none ∧
      (asked .standby).signing = false) ∧
    ((asked .active).signing = true ∧ (asked .active).composer.pass = none ∧ (asked .active).validWindow 0 = []) ∧
    (supported.resetAsserted = false ∧ supported.signing = true ∧ supported.composer.pass = none ∧
      supported.validWindow 2 ≠ [] ∧ 2 < supported.control.length) ∧
    (supported.mode = .active ∧ (asked .startup).mode = .startup ∧ (asked .startup).signing = true ∧
      (asked .startup).modeControl.startupCount + 1 < (asked .startup).par.startupEvaluations ∧
      (owing 0 1).par.startupEvaluations ≤ (owing 0 1).modeControl.startupCount + 1) := by decide +kernel

theorem witness_DwellHoldsRises :
    (GantryControl.reset.demanded = none) ∧
    (let c := { GantryControl.reset with demanded := some (.kmh 60), dwell := 1 }
     c.demanded = some (.kmh 60) ∧ params.value (.kmh 60) < params.value (.kmh 80) ∧ 0 < c.dwell) ∧
    (let s := (inMode .active).setControl 2 { GantryControl.reset with pendingIncrease := true }
     s.resetAsserted = false ∧ s.signing = true ∧ 2 < s.gantryCount ∧ 2 < s.control.length ∧ (s.gantryControl 2).dwell = 0) ∧
    (inMode .standby).signing = false := by decide +kernel

theorem witness_LimitSetSettlesTheCap :
    (let s := inMode .standby
     s.mode ≠ .unconfigured ∧ s.mode = .standby ∧ 1 ≠ 0 ∧ (∀ o ∈ s.limitOrders, o.id ≠ 1) ∧
     (∀ c ∈ s.closures.register, c.id ≠ 1) ∧ s.limitOrders.length < 8 ∧ 0 ≤ 2 ∧ 2 < s.gantryCount ∧
     s.par.displaySet ≠ [] ∧ s.par.displaySet.Pairwise (· < ·) ∧ 60 ∈ s.par.displaySet ∧
     (∃ v ∈ s.par.displaySet, v ≤ 59) ∧ (∀ v ∈ s.par.displaySet, 39 < v) ∧ s.par.vtop ≤ 100) ∧
    (inMode .active).mode = .active ∧ (inMode .startup).mode = .startup := by decide +kernel

theorem witness_MergeHoldExpiryMovesTheFront :
    (closing.resetAsserted = false ∧ closing.signing = true ∧ (closing.closures.register.map Closure.slot).Nodup ∧
      { id := 2, slot := 3, body := .shoulder closingOrder } ∈ closing.closures.register ∧
      closingOrder.phase = .closing ∧ closingOrder.front = some 0 ∧ closingOrder.mergeHold = some 0 ∧
      closingOrder.lastGantry < closing.closures.shoulders.length ∧ 0 ≤ closingOrder.lastGantry ∧
      closing.composer.pass = none) ∧
    (0 < 1 ∧ 1 ≤ closingOrder.lastGantry ∧ closing.shoulder 1 = .opened) ∧
    (closing.setShoulder 1 .closed).shoulder 1 ≠ .opened := by decide +kernel

/-- The busy segment with its pass at a gantry. -/
def passing (g : Nat) : State := { busy with composer := { busy.composer with pass := some g } }
/-- A segment without orders, its pass at gantry 1 with band 1, whose legend is given. -/
def banded (legend : Legend) : State :=
  let s := (inMode .active).setControl 1 { GantryControl.reset with band := 1 }
  { s with tables := { tables with bands := [some { band with legend := legend }] },
           composer := { s.composer with pass := some 1 } }
/-- The closing shoulder with its pass at the front. -/
def closingPass : State := { closing with composer := { closing.composer with pass := some 0 } }

theorem witness_VisitComposesTheGantry :
    ((passing 2).resetAsserted = false ∧ (passing 2).composer.pass = some 2 ∧ 2 < (passing 2).control.length ∧
      2 < (passing 2).composer.delivery.length) ∧
    ((passing 2).par.displaySet ≠ [] ∧ (passing 2).par.displaySet.Pairwise (· < ·)) ∧
    -- overlays, the shoulder and the legend's lines
    ((passing 2).overlayAspect 2 1 = some .closed ∧ (passing 2).overlayAspect 2 3 = none ∧
      (passing 1).overlayAspect 1 1 = some .mergeOffside ∧
      ((passing 0).tables.gantry 0).shoulder = true ∧ (passing 0).shoulder 0 = .opened ∧ (passing 2).shoulder 2 = .closed ∧
      closingPass.resetAsserted = false ∧ closingPass.composer.pass = some 0 ∧
      (closingPass.tables.gantry 0).shoulder = true ∧ closingPass.shoulder 0 = .merge) ∧
    ((passing 1).incidentAsked 1 = true ∧ (passing 2).incidentAsked 2 = false ∧
      (passing 2).coveringOrders 2 = [] ∧
      ((passing 0).limitOrders.filter (fun o => decide (o.firstGantry ≤ 1 ∧ 1 ≤ o.lastGantry))).map LimitOrder.legend =
        [some .roadworks] ∧
      (List.all [Legend.queueAhead, .congestion, .blank] (fun l => decide ((banded l).resetAsserted = false ∧
        (banded l).composer.pass = some 1 ∧ (banded l).incidentAsked 1 = false ∧ (banded l).coveringOrders 1 = [] ∧
        (banded l).tables.bandLegend ((banded l).gantryControl 1).band = l ∧ (banded l).shoulder 1 ≠ .opened)) = true)) ∧
    -- placement: sent as demanded and with its refresh due, or never sent
    ((shown.deliveryRec 1).sinceSet = some 120000 ∧ shown.par.refreshTime * 1000 ≤ 120000 ∧
      ((passing 2).deliveryRec 2).sent = none ∧ (∃ e ∈ (passing 2).composer.queue, e.gantry = 2)) ∧
    -- the count owed
    ((passing 2).countOwed = none ∧ (owing 2 1).countOwed = some 2 ∧ (owing 2 1).evaluationsAsked = 0 ∧
      (owing 2 1).mode = .startup ∧ (owing 1 0).countOwed = some 1) := by decide +kernel

/-- Gantry 0 of the test segment with a SET of four aspects sent. -/
def sent (state : DeliveryState) (attempts : Nat) : State := (inMode .active).setDelivery 0
  { DeliveryRec.reset with sent := some { aspects := [.closed, .nlEnd, .nlEnd, .nlEnd], legend := .blank },
                           state := state, attempts := attempts }

theorem witness_SignReplyIsJudged :
    0 < (sent .awaiting 1).composer.delivery.length ∧ ((sent .awaiting 1).deliveryRec 0).sent.isSome = true ∧
    failingLanes (gantry 21) [.closed, .nlEnd, .nlEnd, .nlEnd] [.shows .closed, .shows .nlEnd, .shows .nlEnd, .shows .nlEnd] [] = [] ∧
    failingLanes (gantry 21) [.closed, .nlEnd, .nlEnd, .nlEnd] [.shows .closed, .unreadable, .shows .nlEnd, .shows .nlEnd] [3] = [1, 3] ∧
    (((sent .awaiting 1).deliveryRec 0).state = .awaiting ∧ 1 + 1 < 3) ∧
    (((sent .awaiting 2).deliveryRec 0).state = .awaiting ∧ 3 ≤ 2 + 1) ∧
    ((sent .failed 3).deliveryRec 0).state = .failed := by decide +kernel

theorem witness_RefreshPlacesTheGantry :
    (shown.resetAsserted = false ∧ shown.configured = true ∧ 1 < shown.gantryCount ∧ 1 < shown.composer.delivery.length ∧
      (shown.deliveryRec 1).sinceSet = some 120000 ∧ shown.signing = true ∧ (shown.deliveryRec 1).state ≠ .inLocal ∧
      (∀ e ∈ shown.composer.queue, e.gantry ≠ 1) ∧ (shown.deliveryRec 1).demanded ≠ none) ∧
    (shown.deliveryRec 0).sinceSet = none := by decide +kernel

/-- A failed centre exchange to be settled, after some failures. -/
def failed (n : Nat) : State :=
  { inMode .standby with centre := { (inMode .standby).centre with unsettled := some .failed, failures := n } }

theorem witness_FailedCentreExchangeSettles :
    ((failed 4).resetAsserted = false ∧ (failed 4).centre.unsettled = some .failed ∧ (failed 4).sequencer.building = none ∧
      (failed 4).sequencer.choiceOwed = false ∧ (failed 4).centre.link = .linked ∧ (failed 4).par.centreLossLimit ≤ 4 + 1) ∧
    ((failed 3).centre.unsettled = some .failed ∧ ¬ (failed 3).par.centreLossLimit ≤ 3 + 1) := by decide +kernel

theorem witness_ReceivedCentreExchangeSettles :
    let s := handed [0] (inMode .standby)
    s.resetAsserted = false ∧ s.centre.unsettled = some (.received [0]) ∧ s.centre.carried.isSome = true ∧
    byteAt [0] 0 = 0 ∧ byteAt [] 0 = 0 ∧ s.sequencer.building = none ∧ s.sequencer.choiceOwed = false ∧ s.waiting = [] ∧
    s.alerts.Wf ∧ s.centre.link = .linked := by decide +kernel

theorem witness_EachOrderHasOneResponse : ({ Centre.reset with queue := [] } : Centre).queue.length < 48 := by decide +kernel

theorem witness_OrderMessagesAreRead :
    ∀ m ∈ [({ message := 1, kind := 3, body := [] } : OrderMessage), { message := 2, kind := 2, body := List.replicate 255 0 }],
      m.body.length ≤ 255 := by decide +kernel

/-- An Alert Unit with one entry present and one latched alone. -/
def alerts : AlertUnit := (AlertUnit.reset.rise (downKey .one)).event linkExceptionKey

theorem witness_AlertFlagsFollowTheReports :
    alerts.Wf ∧ alerts.present.Nodup ∧ downKey .one ∈ alerts.present ∧ linkExceptionKey ∉ alerts.present ∧
    linkExceptionKey ∈ alerts.latched ∧ linkExceptionKey ≠ downKey .one := by decide +kernel

theorem witness_ModeOrdersMoveTheMode :
    ((inMode .standby).mode = .standby ∧ (inMode .standby).composer.pass = none) ∧ (inMode .startup).mode = .startup ∧
    (inMode .active).mode = .active ∧ up.mode = .unconfigured ∧
    (∃ x ∈ closing.closures.shoulderOrders, x.2.phase = .closing) ∧
    ¬ (∃ x ∈ busy.closures.shoulderOrders, x.2.phase = .opening ∨ x.2.phase = .halted ∨ x.2.phase = .closing) := by
  decide +kernel

/-- One Station Table record in bytes, and one with a spacing of 99. -/
def stationBytes : List Byte := [11, 1, 194, 131, 2, 4, 3]
def badBytes : List Byte := [11, 0, 99, 131, 2, 4, 3]

theorem witness_TableLoadWritesTheSection :
    (inMode .startup).mode = .startup ∧ (inMode .standby).mode = .standby ∧ up.mode = .unconfigured ∧
    tables.load 2 2 1 [badBytes] = .inr (1, 5) ∧ (tables.load 2 48 47 [stationBytes]).isLeft = true ∧ 47 + 1 ≤ 48 ∧
    (tables.load 2 1 0 [stationBytes]).isLeft = true ∧ (tables.load 1 1 0 []).isLeft = true ∧
    (tables.load 3 32 31 [[21, 0x0B, 255, 0, 60, 0, 255, 255, 1, 80, 2]]).isLeft = true ∧ (tables.load 4 6 0 []).isLeft = true ∧
    (tables.load 5 128 0 []).isLeft = true := by decide +kernel

theorem witness_RestartKeepsAndClears :
    busy.modeControl.tableChecked = true ∧ up.modeControl.tableChecked = false := by decide +kernel

/-- The next commands of a busy segment for the laws: a visit, a timeout, and a settling. -/
def visiting : State :=
  { busy with composer := { busy.composer with pass := some 1 }, pending := [.compositionPassVisit] }

theorem witness_ReportQueueLaw : visiting.OneRequestWf ∧ visiting.ReportsWf ∧ visiting.CreditWf ∧
    ∃ t, step visiting = .next t := ⟨by decide +kernel, by decide +kernel, by decide +kernel, _, rfl⟩
theorem witness_AlertTableLaw : visiting.alerts.Wf ∧ visiting.CaptureWf ∧ ∃ t, step visiting = .next t :=
  ⟨by decide +kernel, by decide +kernel, _, rfl⟩
theorem witness_CheckedTablesLaw : visiting.FlagWf ∧ visiting.CheckedWf ∧ ∃ t, step visiting = .next t :=
  ⟨by decide +kernel, by decide +kernel, _, rfl⟩
set_option synthInstance.maxHeartbeats 400000 in
set_option synthInstance.maxSize 2000 in
theorem witness_tables_sound : visiting.tables.Wf := by decide +kernel
theorem witness_TableStoreLaw : visiting.ShapeWf ∧ visiting.tables.Wf ∧ ∃ t, step visiting = .next t :=
  ⟨by decide +kernel, witness_tables_sound, _, rfl⟩
theorem witness_QuietOutsideSigningLaw : visiting.QuietWf ∧ visiting.SignQueueWf ∧ ∃ t, step visiting = .next t :=
  ⟨by decide +kernel, by decide +kernel, _, rfl⟩
theorem witness_OrderRegistersLaw : visiting.OrdersWf ∧ ∃ t, step visiting = .next t := ⟨by decide +kernel, _, rfl⟩
theorem witness_OrderPlacesLaw : visiting.FlagWf ∧ visiting.OrdersWf ∧ visiting.PlacesWf ∧ ∃ t, step visiting = .next t :=
  ⟨by decide +kernel, by decide +kernel, by decide +kernel, _, rfl⟩
theorem witness_OverlayListsLaw : visiting.FlagWf ∧ visiting.ShapeWf ∧ visiting.tables.Wf ∧ visiting.OrdersWf ∧
    visiting.PlacesWf ∧ visiting.OverlayWf ∧ ∃ t, step visiting = .next t :=
  ⟨by decide +kernel, by decide +kernel, witness_tables_sound, by decide +kernel, by decide +kernel, by decide +kernel, _, rfl⟩
theorem witness_ShoulderRunLaw : visiting.FlagWf ∧ visiting.ShapeWf ∧ visiting.OrdersWf ∧ visiting.PlacesWf ∧
    visiting.ShoulderWf ∧ ∃ t, step visiting = .next t :=
  ⟨by decide +kernel, by decide +kernel, by decide +kernel, by decide +kernel, by decide +kernel, _, rfl⟩
theorem witness_DemandedLimitLaw : visiting.FlagWf ∧ visiting.CheckedWf ∧ visiting.ShapeWf ∧ visiting.tables.Wf ∧
    visiting.QuietWf ∧ visiting.DemandWf ∧ ∃ t, step visiting = .next t :=
  ⟨by decide +kernel, by decide +kernel, by decide +kernel, witness_tables_sound, by decide +kernel, by decide +kernel, _, rfl⟩
theorem witness_CascadeLaw : visiting.FlagWf ∧ visiting.CheckedWf ∧ visiting.ShapeWf ∧ visiting.tables.Wf ∧
    visiting.QuietWf ∧ visiting.DemandWf ∧ visiting.CascadeWf ∧ ∃ t, step visiting = .next t :=
  ⟨by decide +kernel, by decide +kernel, by decide +kernel, witness_tables_sound, by decide +kernel, by decide +kernel,
    by decide +kernel, _, rfl⟩
theorem witness_ShoulderAspectLaw : visiting.FlagWf ∧ visiting.ShapeWf ∧ visiting.tables.Wf ∧ visiting.OrdersWf ∧
    visiting.PlacesWf ∧ visiting.ShoulderWf ∧ visiting.QuietWf ∧ visiting.ShoulderDemandWf ∧
    ∃ t, step visiting = .next t :=
  ⟨by decide +kernel, by decide +kernel, witness_tables_sound, by decide +kernel, by decide +kernel, by decide +kernel,
    by decide +kernel, by decide +kernel, _, rfl⟩
theorem witness_ClosureProtectionLaw : visiting.FlagWf ∧ visiting.ShapeWf ∧ visiting.tables.Wf ∧ visiting.OrdersWf ∧
    visiting.PlacesWf ∧ visiting.OverlayWf ∧ visiting.QuietWf ∧ visiting.ProtectionWf ∧ ∃ t, step visiting = .next t :=
  ⟨by decide +kernel, by decide +kernel, witness_tables_sound, by decide +kernel, by decide +kernel, by decide +kernel,
    by decide +kernel, by decide +kernel, _, rfl⟩
theorem witness_LinkCountersLaw : nearlyDown.link.CountsWf ∧ ∃ t, step nearlyDown = .next t := ⟨by decide +kernel, _, rfl⟩
theorem witness_OneRequestLaw : visiting.FlagWf ∧ visiting.OneRequestWf ∧ ∃ t, step visiting = .next t :=
  ⟨by decide +kernel, by decide +kernel, _, rfl⟩
theorem witness_DwellLaw : ∃ t, step visiting = .next t ∧ 0 < (visiting.gantryControl 1).dwell ∧
    (visiting.gantryControl 1).demanded = some (.kmh 60) ∧ (t.gantryControl 1).demanded = some (.kmh 60) :=
  ⟨_, rfl, by decide +kernel, by decide +kernel, by decide +kernel⟩

end Sys2Proof.Tests
end

section
/-! SUPPORT. The mode orders: what MODE RUN and MODE STANDBY do in every segment mode (R19 to R21, R25, R53, R62). -/

namespace Sys2Proof.Machine

/-! ## A walk outside STARTUP and ACTIVE (R54, R58) -/

/-- What a walk outside STARTUP and ACTIVE may change in the composer and the sequencer: the refresh rotation, the
position, and a CXE request chosen (R54, R58). -/
structure WalkedQuietly (s t : State) : Prop where
  composer : t.composer = { s.composer with rotation := t.composer.rotation }
  sequencer : t.sequencer =
    { s.sequencer with position := t.sequencer.position, building := t.sequencer.building }

theorem WalkedQuietly.refl (s : State) : WalkedQuietly s s := ⟨rfl, rfl⟩

/-- The move to the next position comes before the slot is taken, and a skipped slot leaves it at that (R54). -/
theorem WalkedQuietly.of_moved {s t : State} {n : Nat}
    (h : WalkedQuietly { s with sequencer := { s.sequencer with position := n } } t) : WalkedQuietly s t :=
  ⟨h.composer, h.sequencer⟩

theorem WalkedQuietly.deliveryRec {s t : State} (h : WalkedQuietly s t) (g : Nat) :
    t.deliveryRec g = s.deliveryRec g := by
  unfold State.deliveryRec
  rw [h.composer]

/-- R58: outside STARTUP and ACTIVE a COMMAND slot yields the SGQ of the rotation, whatever the queue holds. -/
theorem State.takeCommand_of_not_signing {s : State} (hs : s.signing = false) (i : Nat) :
    s.takeCommand i = s.handOverSgq i := by
  unfold State.takeCommand
  split <;> simp [hs]

theorem State.takeSlot_walkedQuietly {s t : State} {i : Nat} {x : Slot} (h : s.takeSlot i x = some t)
    (hs : s.signing = false) : WalkedQuietly s t := by
  cases x with
  | station n =>
    obtain ⟨-, ht⟩ := Option.ite_none_right_eq_some.mp h
    cases ht
    exact ⟨rfl, rfl⟩
  | spare =>
    obtain ⟨-, ht⟩ := Option.ite_none_right_eq_some.mp h
    obtain ⟨n, -, rfl⟩ := Option.map_eq_some_iff.mp ht
    exact ⟨rfl, rfl⟩
  | centre => cases h; exact ⟨rfl, rfl⟩
  | command =>
    cases h
    rw [State.takeCommand_of_not_signing hs]
    exact ⟨rfl, rfl⟩

theorem State.walkFrom_walkedQuietly (fuel : Nat) {s : State} (hs : s.signing = false) :
    WalkedQuietly s (State.walkFrom fuel s) := by
  induction fuel generalizing s with
  | zero => exact .refl s
  | succ fuel ih =>
    unfold State.walkFrom
    dsimp only
    split
    · rename_i t ht
      obtain ⟨x, -, hx⟩ := Option.bind_eq_some_iff.mp ht
      exact .of_moved (State.takeSlot_walkedQuietly hx hs)
    · exact .of_moved (ih hs)

/-! ## The entry to STANDBY (R21, R53, R62) -/

/-- The entry column of R53, before the walk of R62. -/
def State.loadCycle (s : State) : State :=
  { s with
    sequencer := { s.sequencer with
      position := 0, interval := 0, markPending := false,
      intervalTimer := some (s.par.intervalLength * 1000), evaluationTimer := none, idleWait := none },
    countOwed := none }

theorem State.enterStandby_eq (s : State) : s.enterStandby =
    if s.loadCycle.sequencer.choiceOwed || s.loadCycle.requestOut then s.loadCycle else s.loadCycle.walk := rfl

theorem State.enterStandby_walkedQuietly {s : State} (hs : s.signing = false) :
    WalkedQuietly s.loadCycle s.enterStandby := by
  rw [s.enterStandby_eq]
  split
  · exact .refl _
  · exact State.walkFrom_walkedQuietly _ hs

/-- The state in which an entry to STANDBY from STARTUP or ACTIVE reaches the Cycle Sequencer (R21, R156). -/
def State.quieted (s : State) : State :=
  (((s.setMode .standby).stopDemands).clearDemands).overtake .judgeOnly

theorem State.stopSigning_eq (s : State) : s.stopSigning = s.quieted.enterStandby := rfl

theorem State.stopSigning_walkedQuietly (s : State) : WalkedQuietly s.quieted.loadCycle s.stopSigning :=
  State.enterStandby_walkedQuietly (s := s.quieted) rfl

theorem State.stopSigning_mode (s : State) : s.stopSigning.mode = .standby :=
  congrArg ModeControl.mode (s.quieted.enterStandby_touches .modeControl (by decide))

/-- R21, R53: interval 0 begins unopened with L on the interval timer and no MARK pending. -/
theorem State.stopSigning_sequencer (s : State) :
    s.stopSigning.sequencer.interval = 0 ∧ s.stopSigning.sequencer.markPending = false ∧
    s.stopSigning.sequencer.evaluationTimer = none ∧
    s.stopSigning.sequencer.intervalTimer = some (s.par.intervalLength * 1000) := by
  rw [s.stopSigning_walkedQuietly.sequencer]
  exact ⟨rfl, rfl, rfl, rfl⟩

/-- R156: the pass is IDLE and the Sign Command Queue empty. -/
theorem State.stopSigning_composer (s : State) :
    s.stopSigning.composer.pass = none ∧ s.stopSigning.composer.queue = [] := by
  rw [s.stopSigning_walkedQuietly.composer]
  exact ⟨rfl, rfl⟩

theorem State.clearDemands_deliveryRec (s : State) (g : Nat) :
    s.clearDemands.deliveryRec g = { s.deliveryRec g with demanded := none } :=
  (List.getD_map s.composer.delivery .reset (fun r : DeliveryRec => { r with demanded := none }) :)

theorem State.stopSigning_deliveryRec (s : State) (g : Nat) :
    s.stopSigning.deliveryRec g = { s.deliveryRec g with demanded := none } :=
  (s.stopSigning_walkedQuietly.deliveryRec g).trans (State.clearDemands_deliveryRec _ g)

theorem State.stopDemands_gantryControl (s : State) (g : Nat) :
    s.stopDemands.gantryControl g =
      { s.gantryControl g with demanded := none, dwell := 0, pendingIncrease := false, expiryDue := false } :=
  (List.getD_map s.control .reset
    (fun c : GantryControl => { c with demanded := none, dwell := 0, pendingIncrease := false, expiryDue := false }) :)

theorem State.stopSigning_gantryControl (s : State) (g : Nat) :
    s.stopSigning.gantryControl g =
      { s.gantryControl g with demanded := none, dwell := 0, pendingIncrease := false, expiryDue := false } := by
  have control : s.stopSigning.control = s.stopDemands.control :=
    s.quieted.enterStandby_touches .control (by decide)
  calc s.stopSigning.gantryControl g = s.stopDemands.gantryControl g := by rw [State.gantryControl, control]; rfl
    _ = _ := s.stopDemands_gantryControl g

/-! ## The orders in each segment mode (R19, R20) -/

/-- R25, R140: from STANDBY no pass is running, so the one requested starts at the most downstream gantry. -/
theorem State.enterStartup_of_idle {s : State} (hp : s.composer.pass = none) :
    s.enterStartup = { s with modeControl := { s.modeControl with mode := .startup, startupCount := 0 },
                              composer := { s.composer with pass := some (s.gantryCount - 1) } } := by
  unfold State.enterStartup State.requestPass
  simp only [hp]
  rfl

theorem State.modeRun_of_unconfigured {s : State} (h : s.mode = .unconfigured) :
    s.modeRun = (s, refused .wrongMode) := by
  rw [State.modeRun, h]

theorem State.modeRun_of_standby {s : State} (h : s.mode = .standby) : s.modeRun = (s.enterStartup, accepted) := by
  rw [State.modeRun, h]

theorem State.modeRun_of_signing {s : State} (h : s.mode = .startup ∨ s.mode = .active) :
    s.modeRun = (s, accepted) := by
  unfold State.modeRun
  rcases h with h | h <;> rw [h]

theorem State.modeStandby_of_unconfigured {s : State} (h : s.mode = .unconfigured) :
    s.modeStandby = (s, refused .wrongMode) := by
  rw [State.modeStandby, h]

theorem State.modeStandby_of_standby {s : State} (h : s.mode = .standby) : s.modeStandby = (s, accepted) := by
  rw [State.modeStandby, h]

theorem State.modeStandby_of_signing {s : State} (h : s.mode = .startup ∨ s.mode = .active) :
    s.modeStandby = if s.shoulderRunning then (s, refused .busy) else (s.stopSigning, accepted) := by
  unfold State.modeStandby
  rcases h with h | h <;> rw [h]

/-- The three phases of R20 are those other than OPEN. -/
theorem State.shoulderRunning_iff (s : State) : s.shoulderRunning = true ↔
    ∃ x ∈ s.closures.shoulderOrders, x.2.phase = .opening ∨ x.2.phase = .halted ∨ x.2.phase = .closing := by
  have phase_cases (p : ShoulderPhase) : p ≠ .opened ↔ p = .opening ∨ p = .halted ∨ p = .closing := by
    cases p <;> decide
  simp only [State.shoulderRunning, List.any_eq_true, decide_eq_true_eq, phase_cases]

/-- Settles O42, by the segment mode: the entry to STANDBY is read off `stopSigning`, whose closing walk outside STARTUP
and ACTIVE takes nothing from the Sign Command Queue. -/
theorem modeOrdersMoveTheMode : Obligations.ModeOrdersMoveTheMode := by
  unfold Obligations.ModeOrdersMoveTheMode
  refine ⟨fun s hm hp => ?_, fun s hm => State.modeRun_of_signing hm,
    fun s hm => ⟨State.modeRun_of_unconfigured hm, State.modeStandby_of_unconfigured hm⟩,
    fun s hm => State.modeStandby_of_standby hm, fun s hm => ?_⟩
  · rw [← State.enterStartup_of_idle hp]
    exact State.modeRun_of_standby hm
  · have order : s.carryOut .modeStandby =
        if s.shoulderRunning then (s, refused .busy) else (s.stopSigning, accepted) :=
      State.modeStandby_of_signing hm
    intro running
    refine ⟨fun busy => order.trans (if_pos (s.shoulderRunning_iff.mpr busy)), fun idle => ?_⟩
    rw [order, if_neg (mt s.shoulderRunning_iff.mp idle)]
    have frame := s.stopSigning_touches
    obtain ⟨pass, queue⟩ := s.stopSigning_composer
    refine ⟨rfl, s.stopSigning_mode, frame .closures (by decide), frame .limitOrders (by decide),
      frame .stations (by decide), frame .waiting (by decide), frame .tables (by decide), frame .alerts (by decide),
      pass, queue, fun g => ?_, s.stopSigning_deliveryRec, s.stopSigning_sequencer⟩
    simp only [s.stopSigning_gantryControl g, and_self]

end Sys2Proof.Machine
end

section
/-! SUPPORT. The Segment Link's accounts of one exchange: the outcome and the copy handed on (R35), the rescue switch
(R43) and PATH FORCE (R45). -/

namespace Sys2Proof.Machine

/-! ## The two copies of an exchange (R34, R39, R44) -/

@[simp] theorem otherPath_ne (p : Path) : otherPath p ≠ p := by cases p <;> decide

theorem Copy.result_eq_valid_iff (c : Copy) : c.result = .valid ↔ ∃ r, c = .valid r := by
  cases c <;> simp [Copy.result]

theorem Copy.result_eq_valid_iff_isValid (c : Copy) : c.result = .valid ↔ c.isValid = true := by
  cases c <;> simp [Copy.result, Copy.isValid]

@[simp] theorem Exchange.decodes_receive (x : Exchange) : x.decodes x.receive = true := by
  simp [Exchange.decodes]

theorem Exchange.decodes_of_dual {x : Exchange} (h : x.mode = .dual) (p : Path) : x.decodes p = true := by
  simp [Exchange.decodes, h]

theorem Exchange.decodes_check_of_single {x : Exchange} (h : x.mode = .single) :
    x.decodes (otherPath x.receive) = false := by
  simp [Exchange.decodes, h]

theorem Exchange.result_of_decoded {x : Exchange} {p : Path} (h : x.decodes p = true) :
    x.result p = (x.copies.get p).result := if_pos h

/-- R35: in SINGLE the check copy is NONE. -/
theorem Exchange.result_check_of_single {x : Exchange} (h : x.mode = .single) :
    x.result (otherPath x.receive) = .absent := by
  rw [Exchange.result, x.decodes_check_of_single h]
  rfl

/-- A result is VALID for a path whose copy carries a reply, never for an undecoded one. -/
theorem Exchange.copy_of_result_valid {x : Exchange} {p : Path} (h : x.result p = .valid) :
    ∃ r, x.copies.get p = .valid r := by
  unfold Exchange.result at h
  split at h
  · exact (Copy.result_eq_valid_iff _).mp h
  · cases h

/-! ## The table of R35 -/

theorem outcomeOf_good (c : CopyResult) : outcomeOf .valid c = .good := rfl

theorem outcomeOf_rescued {r : CopyResult} (h : r ≠ .valid) : outcomeOf r .valid = .rescued := by
  cases r with
  | valid => exact absurd rfl h
  | bad | wrong | silent | absent => rfl

theorem outcomeOf_timeout {c : CopyResult} (h : c = .silent ∨ c = .absent) : outcomeOf .silent c = .timeout := by
  rcases h with rfl | rfl <;> rfl

theorem outcomeOf_error_of_receive {r c : CopyResult} (hr : r = .bad ∨ r = .wrong) (hc : c ≠ .valid) :
    outcomeOf r c = .error := by
  cases c with
  | valid => exact absurd rfl hc
  | bad | wrong | silent | absent => rcases hr with rfl | rfl <;> rfl

theorem outcomeOf_error_of_check {c : CopyResult} (h : c = .bad ∨ c = .wrong) : outcomeOf .silent c = .error := by
  rcases h with rfl | rfl <;> rfl

section exchange
variable {x : Exchange}

theorem Exchange.outcome_good (h : x.result x.receive = .valid) : x.outcome = .good := by
  rw [Exchange.outcome, h, outcomeOf_good]

theorem Exchange.outcome_rescued (hr : x.result x.receive ≠ .valid) (hc : x.result (otherPath x.receive) = .valid) :
    x.outcome = .rescued := by
  rw [Exchange.outcome, hc, outcomeOf_rescued hr]

theorem Exchange.taken_of_good (h : x.outcome = .good) : x.taken = (x.copies.get x.receive).reply := by
  rw [Exchange.taken, h]

theorem Exchange.taken_of_rescued (h : x.outcome = .rescued) :
    x.taken = (x.copies.get (otherPath x.receive)).reply := by
  rw [Exchange.taken, h]

theorem Exchange.taken_of_timeout (h : x.outcome = .timeout) : x.taken = none := by
  rw [Exchange.taken, h]

theorem Exchange.taken_of_error (h : x.outcome = .error) : x.taken = none := by
  rw [Exchange.taken, h]

/-- With a VALID copy on either path a reply is handed on, and it is one of the two copies received. -/
theorem Exchange.taken_of_valid (h : x.result x.receive = .valid ∨ x.result (otherPath x.receive) = .valid) :
    ∃ r, x.taken = some r ∧
      (x.copies.get x.receive = .valid r ∨ x.copies.get (otherPath x.receive) = .valid r) := by
  by_cases hr : x.result x.receive = .valid
  · obtain ⟨r, copy⟩ := Exchange.copy_of_result_valid hr
    have taken := Exchange.taken_of_good (Exchange.outcome_good hr)
    exact ⟨r, by rw [taken, copy, Copy.reply], .inl copy⟩
  · have hc := h.resolve_left hr
    obtain ⟨r, copy⟩ := Exchange.copy_of_result_valid hc
    have taken := Exchange.taken_of_rescued (Exchange.outcome_rescued hr hc)
    exact ⟨r, by rw [taken, copy, Copy.reply], .inr copy⟩

end exchange

/-- R33, R35: the block that asked sees its request and the copy taken, and nothing else of the exchange. -/
theorem State.handOutcome_congr (s : State) {x y : Exchange} (request : x.request = y.request)
    (taken : x.taken = y.taken) : s.handOutcome x = s.handOutcome y := by
  unfold State.handOutcome
  rw [request, taken]

/-- Settles O14, line by line of R35's table. -/
theorem outcomeOfTheCopies : Obligations.OutcomeOfTheCopies := by
  unfold Obligations.OutcomeOfTheCopies
  refine ⟨fun x => ⟨Exchange.result_check_of_single, fun hr => ?good, fun hr _ hc => ?rescued, fun hr hc => ?timeout,
    fun hr hc => ?receiveFails, fun hr hc => ?checkFails, Exchange.taken_of_valid⟩,
    fun s _ _ request taken => s.handOutcome_congr request taken⟩
  case good => exact ⟨Exchange.outcome_good hr, Exchange.taken_of_good (Exchange.outcome_good hr)⟩
  case rescued =>
    have rescued := Exchange.outcome_rescued hr hc
    exact ⟨rescued, Exchange.taken_of_rescued rescued⟩
  case timeout =>
    have timeout : x.outcome = .timeout := by rw [Exchange.outcome, hr, outcomeOf_timeout hc]
    exact ⟨timeout, Exchange.taken_of_timeout timeout⟩
  case receiveFails =>
    have error : x.outcome = .error := outcomeOf_error_of_receive hr hc
    exact ⟨error, Exchange.taken_of_error error⟩
  case checkFails =>
    have error : x.outcome = .error := by rw [Exchange.outcome, hr, outcomeOf_error_of_check hc]
    exact ⟨error, Exchange.taken_of_error error⟩

/-! ## The rescue switch (R41, R43) -/

/-- In DUAL the rescue is read off the copies alone, both paths being decoded. -/
theorem Exchange.outcome_rescued_of_dual {x : Exchange} (dual : x.mode = .dual)
    (hr : (x.copies.get x.receive).isValid = false) (hc : (x.copies.get (otherPath x.receive)).isValid = true) :
    x.outcome = .rescued := by
  refine Exchange.outcome_rescued ?_ ?_ <;>
    rw [Exchange.result_of_decoded (x.decodes_of_dual dual _)] <;>
    simp [Copy.result_eq_valid_iff_isValid, hr, hc]

/-- R41: only a VALID receive-path copy beside a failed check-path copy sets CPD. -/
theorem Link.cpdAfter_of_receive_failed {l : Link} {x : Exchange} (clear : l.cpd = false)
    (hr : (x.copies.get x.receive).isValid = false) : l.cpdAfter x = false := by
  simp [Link.cpdAfter, hr, clear]

/-- R43: a rescue switches while CPD is clear, whatever PATH_DOWN says. -/
theorem Link.switches_of_rescued {x : Exchange} (l : Link) (h : x.outcome = .rescued) :
    l.switches x false = true := by
  simp [Link.switches, h]

theorem State.reportChange_link (s : State) (k : AlertKey) (before after : Bool) :
    (s.reportChange k before after).link = s.link :=
  s.reportChange_touches k before after .link (by decide)

theorem State.reportAll_link (s : State) (falls rises : List AlertKey) : (s.reportAll falls rises).link = s.link :=
  s.reportAll_touches falls rises .link (by decide)

/-- R43: a RESCUED exchange of DUAL mode that leaves CPD clear moves the receive path to the path that rescued it. -/
theorem State.settlePaths_receivePath_of_rescued {s : State} {x : Exchange} (mode : s.link.pathMode = .dual)
    (dual : x.mode = .dual) (rescued : x.outcome = .rescued) (clear : s.link.cpdAfter x = false) :
    (s.settlePaths x).link.receivePath = otherPath x.receive := by
  have witnessed : s.link.witnessed x = true := by simp [Link.witnessed, mode, dual]
  simp only [State.settlePaths, witnessed, clear, Link.switches_of_rescued _ rescued, if_true,
    State.reportChange_link, State.reportAll_link]

/-! ## PATH FORCE (R45) -/

theorem State.pathForce_of_path (s : State) (p : Path) : s.pathForce (pathNumber p) = (s.forcePath p, accepted) := by
  cases p <;> rfl

theorem State.pathForce_of_other (s : State) {n : Nat} (h1 : n ≠ 1) (h2 : n ≠ 2) :
    s.pathForce n = (s, refused .badLocation) := by
  unfold State.pathForce
  split
  · exact absurd rfl h1
  · exact absurd rfl h2
  · rfl

/-- A condition that ends is reported as a fall if it stood, and not at all if it did not (R173). -/
theorem State.reportChange_ended (s : State) (k : AlertKey) (before : Bool) :
    s.reportChange k before false = { s with alerts := if before then s.alerts.fall k else s.alerts } := by
  cases before <;> rfl

/-- The whole of what PATH FORCE of a path does, PATH_DOWN, the path mode and the exchange staying as they stand. -/
theorem State.forcePath_eq (s : State) (p : Path) : s.forcePath p = { s with
    link := { s.link with receivePath := p, cpd := false, checkRun := 0, nonValid := { one := 0, two := 0 } },
    alerts := if s.link.cpd then s.alerts.fall disturbedKey else s.alerts } :=
  State.reportChange_ended _ disturbedKey s.link.cpd

/-- R45: PATH FORCE has just cleared CPD, so the first rescued exchange of the forced path is a rescue switch. -/
theorem State.forcePath_left_when_rescued {s : State} {x : Exchange} (mode : s.link.pathMode = .dual)
    (dual : x.mode = .dual) (hr : (x.copies.get x.receive).isValid = false)
    (hc : (x.copies.get (otherPath x.receive)).isValid = true) :
    ((s.forcePath x.receive).settlePaths x).link.receivePath = otherPath x.receive := by
  rw [s.forcePath_eq]
  exact State.settlePaths_receivePath_of_rescued mode dual (Exchange.outcome_rescued_of_dual dual hr hc)
    (Link.cpdAfter_of_receive_failed rfl hr)

/-- Settles O15: the effect is `forcePath_eq`, and a path forced while it fails is left by the rescue switch of R43. -/
theorem pathForceMovesTheReceivePath : Obligations.PathForceMovesTheReceivePath := by
  unfold Obligations.PathForceMovesTheReceivePath
  have forced (s : State) (p : Path) : s.carryOut (.pathForce (pathNumber p)) = (s.forcePath p, accepted) :=
    s.pathForce_of_path p
  refine ⟨?effect, fun s _ h1 h2 => s.pathForce_of_other h1 h2, ?leaves⟩
  case effect =>
    rintro s _ p rfl
    rw [forced]
    exact ⟨rfl, s.forcePath_eq p⟩
  case leaves =>
    rintro s _ x mode dual rfl hr hc
    rw [forced]
    exact State.forcePath_left_when_rescued mode dual hr hc

end Sys2Proof.Machine
end

section
/-! SUPPORT. Interval Reduction at a taking: the values of a lane (R70 to R72), of its station (R73, R74) and the
smoothed speed (R75, R76). -/

namespace Sys2Proof.Machine

/-! ## Lane values (R70 to R72) -/

theorem laneSpeed_of_measured {v : LaneValues} (spacing : Nat) (matched : 1 ≤ v.p) (transit : 1 ≤ v.tsum) :
    laneSpeed spacing v = some (min 250 (360 * spacing * v.p / v.tsum)) :=
  if_pos ⟨matched, transit⟩

theorem laneSpeed_of_unmeasured {v : LaneValues} (spacing : Nat) (h : v.p = 0 ∨ v.tsum = 0) :
    laneSpeed spacing v = none :=
  if_neg (by omega)

/-- R71: the product fits in 32 bits for a spacing and a matched count within their ranges. -/
theorem speedProduct_le {spacing p : Nat} (hd : spacing ≤ 1000) (hp : p ≤ 255) : 360 * spacing * p ≤ 91800000 :=
  calc 360 * spacing * p ≤ 360 * 1000 * 255 := by gcongr
    _ = 91800000 := by norm_num

/-- Outside an injection run the values used are the reported ones, and TEST is cleared (R70). -/
theorem takeLane_of_no_run {r : LaneRec} (par : Params) (d : StationDesc) (v : LaneValues) (h : r.run = none) :
    takeLane par d v r = { r with values := some v, test := false, speed := laneSpeed d.spacing v,
                                  occupancy := laneOccupancy par.intervalLength v, count := v.nL } := by
  simp [takeLane, h]

/-- In an injection run the lane is taken as if its injected values were reported, and marked TEST (R70). -/
theorem takeLane_of_run {r : LaneRec} {run : InjectionRun} (par : Params) (d : StationDesc) (v : LaneValues)
    (h : r.run = some run) :
    takeLane par d v r = { takeLane par d run.values { r with run := none } with test := true, run := some run } := by
  simp [takeLane, h]

/-! ## Station values (R73, R74) -/

theorem le_stationOccupancy_of_mem {usable : List LaneRec} {l : LaneRec} (h : l ∈ usable) :
    l.occupancy ≤ stationOccupancy usable :=
  (foldl_max_spec _ 0).1 _ (List.mem_map_of_mem h)

theorem stationOccupancy_attained (usable : List LaneRec) :
    stationOccupancy usable = 0 ∨ ∃ l ∈ usable, l.occupancy = stationOccupancy usable := by
  obtain ⟨-, -, zero | mem⟩ := foldl_max_spec (usable.map LaneRec.occupancy) 0
  · exact .inl zero
  · exact .inr (List.mem_map.mp mem)

section lines
variable {par : Params} {spacing : Nat} {usable : List LaneRec}

/-- The first line of R73: the space-mean speed. -/
theorem stationSpeed_of_measured (matched : 1 ≤ (usable.map (fun l => l.used.p)).sum)
    (transit : 1 ≤ (usable.map (fun l => l.used.tsum)).sum) :
    stationSpeed par spacing usable = some (min 250 (360 * spacing * (usable.map (fun l => l.used.p)).sum /
      (usable.map (fun l => l.used.tsum)).sum)) :=
  if_pos ⟨matched, transit⟩

/-- The second line of R73: stopped traffic. -/
theorem stationSpeed_of_stopped (matched : (usable.map (fun l => l.used.p)).sum = 0)
    (covered : par.stoppedOccupancy ≤ stationOccupancy usable) : stationSpeed par spacing usable = some 0 := by
  simp [stationSpeed, matched, covered]

/-- The last line of R73, for loops that are not covered. -/
theorem stationSpeed_of_uncovered (matched : (usable.map (fun l => l.used.p)).sum = 0)
    (uncovered : stationOccupancy usable < par.stoppedOccupancy) : stationSpeed par spacing usable = none := by
  simp [stationSpeed, matched, uncovered]

/-- The last line of R73, for matched vehicles without a transit time. -/
theorem stationSpeed_of_no_transit (matched : 1 ≤ (usable.map (fun l => l.used.p)).sum)
    (transit : (usable.map (fun l => l.used.tsum)).sum = 0) : stationSpeed par spacing usable = none := by
  simp [stationSpeed, transit, Nat.ne_of_gt matched]

end lines

/-- The lanes a station's values are computed over (R73). -/
def StationRec.usableLanes (d : StationDesc) (r : StationRec) : List LaneRec :=
  ((r.laneRecs d).map Prod.snd).filter LaneRec.usable

section reduce
variable (par : Params) (d : StationDesc) (r : StationRec)

@[simp] theorem StationRec.reduce_speed :
    (r.reduce par d).speed = stationSpeed par d.spacing (r.usableLanes d) := rfl
@[simp] theorem StationRec.reduce_occupancy :
    (r.reduce par d).occupancy = stationOccupancy (r.usableLanes d) := rfl
@[simp] theorem StationRec.reduce_flow : (r.reduce par d).flow = stationFlow par (r.usableLanes d) := rfl
@[simp] theorem StationRec.reduce_usable : (r.reduce par d).usable = (r.usableLanes d).length := rfl

end reduce

/-- Settles O22: the lane with and without an injection run, then the station line by line of R73. -/
theorem laneAndStationArithmetic : Obligations.LaneAndStationArithmetic := by
  unfold Obligations.LaneAndStationArithmetic
  refine ⟨?lane, fun par d v r run h => takeLane_of_run par d v h, fun par d r => ?station⟩
  case lane =>
    intro par d v r h
    rw [takeLane_of_no_run par d v h]
    exact ⟨rfl, rfl, rfl, rfl, laneSpeed_of_measured d.spacing, laneSpeed_of_unmeasured d.spacing, speedProduct_le⟩
  case station =>
    simp only [StationRec.reduce_speed, StationRec.reduce_occupancy, StationRec.reduce_flow, StationRec.reduce_usable]
    exact ⟨fun _ => le_stationOccupancy_of_mem, stationOccupancy_attained (r.usableLanes d), rfl, rfl,
      stationSpeed_of_measured, stationSpeed_of_stopped, stationSpeed_of_uncovered, stationSpeed_of_no_transit⟩

/-! ## The smoothed speed at a taking (R75) -/

section sample
variable {par : Params} {d : StationDesc} {r : StationRec}

theorem StationRec.reduce_smoothed_of_no_sample (h : (r.reduce par d).speed = none) :
    (r.reduce par d).smoothed = r.smoothed ∧ (r.reduce par d).seeded = r.seeded := by
  rw [StationRec.reduce_speed, StationRec.usableLanes] at h
  simp [StationRec.reduce, h]

theorem StationRec.reduce_smoothed_of_sample {n : Nat} (h : (r.reduce par d).speed = some n) :
    (r.reduce par d).seeded = true ∧
      (r.reduce par d).smoothed = if r.seeded then smooth r.smoothed n d.weight else 16 * n := by
  rw [StationRec.reduce_speed, StationRec.usableLanes] at h
  simp [StationRec.reduce, h]

end sample

/-- R75's signed arithmetic; the model's `toNat` never cuts for the weights of R8 (`smooth_up`, `smooth_down`). -/
theorem smooth_cast (s v w : Nat) :
    (smooth s v w : Int) = max 0 ((s : Int) + (((16 * v : Nat) - s : Int) * w).tdiv 8) := by
  rw [smooth, Int.ofNat_toNat, max_comm]

/-! ## Movement toward a steady input (R76) -/

/-- The difference left between S and a steady input, in sixteenths: |d| of R76. -/
def smoothingGap (s v : Nat) : Nat := max (16 * v - s) (s - 16 * v)

theorem smoothingGap_of_below {s v : Nat} (h : s ≤ 16 * v) : smoothingGap s v = 16 * v - s := by
  unfold smoothingGap; omega

theorem smoothingGap_of_above {s v : Nat} (h : 16 * v ≤ s) : smoothingGap s v = s - 16 * v := by
  unfold smoothingGap; omega

/-- A weight moves S by no more than the whole difference. -/
theorem eighths_le {w : Nat} (gap : Nat) (hw : w ≤ 8) : gap * w / 8 ≤ gap :=
  Nat.div_le_of_le_mul (by rw [Nat.mul_comm 8]; gcongr)

section movement
variable {s v w : Nat}

/-- From below S rises and does not pass the input. -/
theorem smooth_between_of_below (hw : w ≤ 8) (h : s ≤ 16 * v) : s ≤ smooth s v w ∧ smooth s v w ≤ 16 * v := by
  have step := eighths_le (16 * v - s) hw
  rw [smooth_up s v w h]
  omega

/-- From above S falls and does not pass the input. -/
theorem smooth_between_of_above (hw : w ≤ 8) (h : 16 * v ≤ s) : 16 * v ≤ smooth s v w ∧ smooth s v w ≤ s := by
  have step := eighths_le (s - 16 * v) hw
  rw [smooth_down s v w h hw]
  omega

/-- S stays within 0 to 4000, the range of its input. -/
theorem smooth_le (hs : s ≤ 4000) (hv : v ≤ 250) (hw : w ≤ 8) : smooth s v w ≤ 4000 := by
  rcases Nat.le_total s (16 * v) with below | above
  · exact (smooth_between_of_below hw below).2.trans (by omega)
  · exact (smooth_between_of_above hw above).2.trans hs

/-- The stopping rule of R76, on either side of the input. -/
theorem smooth_eq_self_iff (hw : w ≤ 8) : smooth s v w = s ↔ smoothingGap s v * w < 8 := by
  rcases Nat.le_total s (16 * v) with below | above
  · rw [smooth_up s v w below, smoothingGap_of_below below]
    omega
  · have step := eighths_le (s - 16 * v) hw
    rw [smooth_down s v w above hw, smoothingGap_of_above above]
    omega

/-- With the full weight S takes the input at once. -/
theorem smooth_full (s v : Nat) : smooth s v 8 = 16 * v := by
  rcases Nat.le_total s (16 * v) with below | above
  · rw [smooth_up s v 8 below]
    omega
  · rw [smooth_down s v 8 above (Nat.le_refl 8)]
    omega

/-- The table of R76: what is left when S stops. -/
theorem smoothingGap_le_of_stopped (pos : 1 ≤ w) (hw : w ≤ 8) (stopped : smooth s v w = s) :
    smoothingGap s v ≤ 7 / w :=
  (Nat.le_div_iff_mul_le pos).mpr (Nat.le_of_lt_succ ((smooth_eq_self_iff hw).mp stopped))

/-- The controlling speed stops at most 1 km/h below a steady input. -/
theorem le_controlling_of_stopped (pos : 1 ≤ w) (hw : w ≤ 8) (stopped : smooth s v w = s) : v ≤ s / 16 + 1 := by
  have left : smoothingGap s v ≤ 7 := (smoothingGap_le_of_stopped pos hw stopped).trans (Nat.div_le_self 7 w)
  have lower : 16 * v - s ≤ smoothingGap s v := Nat.le_max_left ..
  omega

end movement

/-- Settles O23: the three cases of R75, then R76 from `smooth_up` and `smooth_down`. -/
theorem smoothingMovesTowardTheInput : Obligations.SmoothingMovesTowardTheInput := by
  unfold Obligations.SmoothingMovesTowardTheInput
  refine ⟨fun par d r => ⟨StationRec.reduce_smoothed_of_no_sample, fun n sample => ?taking⟩, fun _ => rfl, ?steady⟩
  case taking =>
    obtain ⟨seeded, smoothed⟩ := StationRec.reduce_smoothed_of_sample sample
    rw [smoothed]
    refine ⟨seeded, fun unseeded => by simp [unseeded], fun before => ?_⟩
    rw [if_pos before, smooth_cast]
  case steady =>
    intro s v w hs hv pos hw
    refine ⟨smooth_le hs hv hw, smooth_between_of_below hw, smooth_between_of_above hw, smooth_eq_self_iff hw,
      fun full => full ▸ smooth_full s v, smoothingGap_le_of_stopped pos hw, fun below => ?_, fun above => ?_,
      le_controlling_of_stopped pos hw⟩
    · have notPassed := (smooth_between_of_below hw below).2
      omega
    · have notPassed := (smooth_between_of_above hw above).1
      omega

end Sys2Proof.Machine
end

section
/-! SUPPORT. Detector Supervision at a lane's test: when each detector shows its condition (R88 to R90), what the
plausibility counter does (R88), and how the health is settled (R91, R92). -/

namespace Sys2Proof.Machine

/-! ## The detectors (R88 to R90) -/

theorem pairMismatch_iff (v : LaneValues) :
    pairMismatch v = true ↔ max 2 (v.nL / 8) < max (v.nL - v.nG) (v.nG - v.nL) := by
  simp only [pairMismatch, decide_eq_true_eq]

/-- A lane at NO_SPEED meets neither speed test of R88. -/
theorem implausible_iff (v : LaneValues) (speed : Option Nat) (occupancy : Nat) :
    implausible v speed occupancy = true ↔
      v.nL < v.p ∨ ∃ n, speed = some n ∧ (200 < n ∨ (1 ≤ v.p ∧ 600 ≤ occupancy ∧ 100 ≤ n)) := by
  cases speed with
  | none => simp [implausible]
  | some vi => simp [implausible]

theorem stuckOn_iff (occupancy count : Nat) (others : List LaneReading) :
    stuckOn occupancy count others = true ↔
      950 ≤ occupancy ∧ count ≤ 1 ∧ ∃ x ∈ others, x.test = false ∧ x.occupancy < 150 := by
  simp [stuckOn, and_assoc]

theorem silentLane_iff (occupancy count : Nat) (others : List LaneReading) :
    silentLane occupancy count others = true ↔
      count = 0 ∧ occupancy = 0 ∧
        ∃ x ∈ others, x.test = false ∧ x.excluded = false ∧ x.health = .ok ∧ 10 ≤ x.count := by
  simp [silentLane, and_assoc]

/-! ## The plausibility counter (R88) -/

section counter
variable {v : LaneValues} {speed : Option Nat} {occupancy : Nat}

theorem settlePlausibility_of_evidence (n : Nat)
    (h : pairMismatch v = true ∨ implausible v speed occupancy = true) :
    settlePlausibility v speed occupancy n = min 127 (n + 1) :=
  if_pos (Bool.or_eq_true_iff.mpr h)

theorem settlePlausibility_of_no_evidence (n : Nat)
    (h : ¬ (pairMismatch v = true ∨ implausible v speed occupancy = true)) :
    settlePlausibility v speed occupancy n = n :=
  if_neg (mt Bool.or_eq_true_iff.mp h)

/-- The counter stands without evidence, and at saturation. -/
theorem settlePlausibility_eq_self_iff (n : Nat) :
    settlePlausibility v speed occupancy n = n ↔
      ¬ (pairMismatch v = true ∨ implausible v speed occupancy = true) ∨ n = min 127 (n + 1) := by
  by_cases evidence : pairMismatch v = true ∨ implausible v speed occupancy = true
  · rw [settlePlausibility_of_evidence n evidence, eq_comm]
    simp only [evidence, not_true, false_or]
  · simp only [settlePlausibility_of_no_evidence n evidence, evidence, not_false_eq_true, true_or]

end counter

/-! ## A lane that was OK or SUSPECT (R91) -/

/-- The first step of R91: a stuck or silent count after a taking that shows its condition or not. -/
def persistedCount (shown : Bool) (count : Nat) : Nat := if shown then count + 1 else 0

theorem persistedCount_of_shown {shown : Bool} (count : Nat) (h : shown = true) :
    persistedCount shown count = count + 1 :=
  if_pos h

theorem persistedCount_of_not_shown {shown : Bool} (count : Nat) (h : ¬ shown = true) :
    persistedCount shown count = 0 :=
  if_neg h

section sound
variable {par : Params} {stuck silent : Bool} {c : HealthContext}

theorem settleSound_of_persisted (h : par.faultPersistence ≤ persistedCount stuck c.stuck ∨
      par.faultPersistence ≤ persistedCount silent c.silent) :
    let c' := settleSound par stuck silent c
    c'.health = .fault ∧ c'.stuck = 0 ∧ c'.silent = 0 ∧ c'.normalRun = 0 := by
  have settled : settleSound par stuck silent c =
      { c with health := .fault, stuck := 0, silent := 0, normalRun := 0 } :=
    if_pos h
  simp only [settled, and_self]

theorem settleSound_of_not_persisted (hstuck : persistedCount stuck c.stuck < par.faultPersistence)
    (hsilent : persistedCount silent c.silent < par.faultPersistence) :
    let c' := settleSound par stuck silent c
    c'.stuck = persistedCount stuck c.stuck ∧ c'.silent = persistedCount silent c.silent ∧
      c'.health = if c.health = .ok ∧ par.plausibilityThreshold ≤ c.plausibility then .suspect else c.health := by
  have settled : settleSound par stuck silent c =
      { c with
        stuck := persistedCount stuck c.stuck
        silent := persistedCount silent c.silent
        health := if c.health = .ok ∧ par.plausibilityThreshold ≤ c.plausibility then .suspect else c.health } :=
    if_neg (not_or.mpr ⟨Nat.not_le.mpr hstuck, Nat.not_le.mpr hsilent⟩)
  simp only [settled, and_self]

variable (par stuck silent c)

/-- The plausibility counter keeps its value, also on the way into FAULT (R91). -/
@[simp] theorem settleSound_plausibility : (settleSound par stuck silent c).plausibility = c.plausibility :=
  (apply_ite HealthContext.plausibility _ _ _).trans (ite_self _)

@[simp] theorem settleSound_excluded : (settleSound par stuck silent c).excluded = c.excluded :=
  (apply_ite HealthContext.excluded _ _ _).trans (ite_self _)

end sound

/-! ## A lane that was in FAULT (R92) -/

section faulty
variable {par : Params} {stuck silent : Bool} {c : HealthContext}

theorem settleFaulty_of_shown (h : stuck = true ∨ silent = true) :
    (settleFaulty par stuck silent c).normalRun = 0 ∧ (settleFaulty par stuck silent c).health = c.health := by
  simp [settleFaulty, h]

theorem settleFaulty_of_short_run (hstuck : ¬ stuck = true) (hsilent : ¬ silent = true) (run : c.normalRun + 1 < 3) :
    (settleFaulty par stuck silent c).normalRun = c.normalRun + 1 ∧
      (settleFaulty par stuck silent c).health = c.health := by
  simp [settleFaulty, hstuck, hsilent, Nat.not_le.mpr run]

theorem settleFaulty_of_full_run (hstuck : ¬ stuck = true) (hsilent : ¬ silent = true) (run : 3 ≤ c.normalRun + 1) :
    (settleFaulty par stuck silent c).normalRun = 0 ∧
      (settleFaulty par stuck silent c).health =
        if par.plausibilityThreshold ≤ c.plausibility then .suspect else .ok := by
  simp [settleFaulty, hstuck, hsilent, run]

variable (par stuck silent c)

/-- What every branch of R92 leaves alone: the stuck and silent counts too stay as they stand. -/
theorem settleFaulty_frame :
    settleFaulty par stuck silent c =
      { c with health := (settleFaulty par stuck silent c).health,
               normalRun := (settleFaulty par stuck silent c).normalRun } := by
  unfold settleFaulty
  split
  · rfl
  · split <;> rfl

@[simp] theorem settleFaulty_plausibility : (settleFaulty par stuck silent c).plausibility = c.plausibility := by
  rw [settleFaulty_frame]

@[simp] theorem settleFaulty_excluded : (settleFaulty par stuck silent c).excluded = c.excluded := by
  rw [settleFaulty_frame]

@[simp] theorem settleFaulty_stuck : (settleFaulty par stuck silent c).stuck = c.stuck := by
  rw [settleFaulty_frame]

@[simp] theorem settleFaulty_silent : (settleFaulty par stuck silent c).silent = c.silent := by
  rw [settleFaulty_frame]

end faulty

/-! ## The whole test (R85) -/

section test
variable {par : Params} {v : LaneValues} {speed : Option Nat} {occupancy count : Nat} {others : List LaneReading}
  {c : HealthContext}

theorem testLane_of_sound (h : c.health ≠ .fault) :
    testLane par v speed occupancy count others c =
      settleSound par (stuckOn occupancy count others) (silentLane occupancy count others)
        { c with plausibility := settlePlausibility v speed occupancy c.plausibility } :=
  if_neg h

theorem testLane_of_faulty (h : c.health = .fault) :
    testLane par v speed occupancy count others c =
      settleFaulty par (stuckOn occupancy count others) (silentLane occupancy count others)
        { c with plausibility := settlePlausibility v speed occupancy c.plausibility } :=
  if_pos h

variable (par v speed occupancy count others c)

/-- Step 1 runs in every health state, and step 3 keeps what it left (R88). -/
@[simp] theorem testLane_plausibility :
    (testLane par v speed occupancy count others c).plausibility =
      settlePlausibility v speed occupancy c.plausibility := by
  by_cases faulty : c.health = .fault
  · rw [testLane_of_faulty faulty, settleFaulty_plausibility]
  · rw [testLane_of_sound faulty, settleSound_plausibility]

@[simp] theorem testLane_excluded : (testLane par v speed occupancy count others c).excluded = c.excluded := by
  by_cases faulty : c.health = .fault
  · rw [testLane_of_faulty faulty, settleFaulty_excluded]
  · rw [testLane_of_sound faulty, settleSound_excluded]

end test

/-- Settles O25: the detectors in the manual's words, then R88's counter, R91 and R92 branch by branch. -/
theorem laneHealthSettles : Obligations.LaneHealthSettles := by
  unfold Obligations.LaneHealthSettles
  intro par v speed occupancy count others c
  simp only [← pairMismatch_iff, ← implausible_iff, ← stuckOn_iff, ← silentLane_iff, testLane_plausibility]
  refine ⟨settlePlausibility_eq_self_iff _, settlePlausibility_of_evidence _, testLane_excluded .., ?sound, ?faulty⟩
  case sound =>
    intro sound
    rw [testLane_of_sound sound]
    exact ⟨persistedCount (stuckOn occupancy count others) c.stuck,
      persistedCount (silentLane occupancy count others) c.silent,
      persistedCount_of_shown _, persistedCount_of_not_shown _, persistedCount_of_shown _,
      persistedCount_of_not_shown _,
      fun persisted => settleSound_of_persisted persisted,
      fun hstuck hsilent => settleSound_of_not_persisted hstuck hsilent⟩
  case faulty =>
    intro faulty
    rw [testLane_of_faulty faulty, ← faulty]
    exact ⟨settleFaulty_stuck .., settleFaulty_silent .., fun shown => settleFaulty_of_shown shown,
      fun notStuck notSilent => ⟨fun run => settleFaulty_of_short_run notStuck notSilent run,
        fun run => settleFaulty_of_full_run notStuck notSilent run⟩⟩

end Sys2Proof.Machine
end

section
/-! SUPPORT. Speed Control's band after a supported evaluation: the highest band whose onset holds, and the band that
the evaluation settles on (R103). -/

namespace Sys2Proof.Machine

/-! ## Onset and release at a band of the table (R103) -/

/-- The onset of band b's record holds; a band without a record has none. -/
def Tables.onsetAt (t : Tables) (vc oc b : Nat) : Bool := (t.band b).any (·.onset vc oc)

/-- The release of band b's record holds; a band without a record has none. -/
def Tables.releaseAt (t : Tables) (vc oc b : Nat) : Bool := (t.band b).any (·.release vc oc)

theorem Tables.onsetAt_iff (t : Tables) (vc oc b : Nat) :
    t.onsetAt vc oc b = true ↔ ∃ d, t.band b = some d ∧ (vc < d.von ∨ d.oon ≤ oc) := by
  simp [Tables.onsetAt, BandDesc.onset, Option.any_eq_true]

theorem Tables.releaseAt_iff (t : Tables) (vc oc b : Nat) :
    t.releaseAt vc oc b = true ↔ ∃ d, t.band b = some d ∧ d.voff ≤ vc ∧ oc < d.ooff := by
  simp [Tables.releaseAt, BandDesc.release, Option.any_eq_true]

/-- Band 0, no band, has no record to release from (R10). -/
theorem Tables.pos_of_releaseAt {t : Tables} {vc oc b : Nat} (h : t.releaseAt vc oc b = true) : 0 < b :=
  Nat.pos_of_ne_zero fun zero => by simp [Tables.releaseAt, Tables.band, zero] at h

/-! ## The highest band whose onset holds (R103) -/

/-- A walk up the places 1 to n that keeps the last one with the property ends at the greatest. -/
theorem foldl_range'_keep_last (p : Nat → Bool) (n : Nat) :
    (List.range' 1 n).foldl (fun u b => if p b then b else u) 0 = Nat.findGreatest (fun b => p b = true) n := by
  induction n with
  | zero => rfl
  | succ n ih =>
    rw [List.range'_1_concat, List.foldl_append, ih, Nat.findGreatest_succ, Nat.add_comm 1 n]
    rfl

theorem Tables.highestOnset_eq_findGreatest (t : Tables) (vc oc : Nat) :
    t.highestOnset vc oc = Nat.findGreatest (fun b => t.onsetAt vc oc b = true) t.bands.length := by
  rw [← foldl_range'_keep_last]
  refine List.foldl_ext _ _ _ fun u b _ => ?_
  unfold Tables.onsetAt
  cases t.band b with
  | none => rfl
  | some d => rfl

section highest
variable {t : Tables} {vc oc : Nat}

theorem Tables.le_highestOnset {b : Nat} (known : b ≤ t.bands.length) (onset : t.onsetAt vc oc b = true) :
    b ≤ t.highestOnset vc oc := by
  rw [t.highestOnset_eq_findGreatest]
  exact Nat.le_findGreatest known onset

theorem Tables.highestOnset_le : t.highestOnset vc oc ≤ t.bands.length := by
  rw [t.highestOnset_eq_findGreatest]
  exact Nat.findGreatest_le _

theorem Tables.onsetAt_highestOnset (h : t.highestOnset vc oc ≠ 0) :
    t.onsetAt vc oc (t.highestOnset vc oc) = true :=
  Nat.findGreatest_of_ne_zero (P := fun b => t.onsetAt vc oc b = true) (t.highestOnset_eq_findGreatest vc oc).symm h

end highest

/-! ## The band settled on (R103) -/

section settle
variable {t : Tables} {vc oc c : Nat}

theorem Tables.settleBand_of_onset_above (h : c < t.highestOnset vc oc) :
    t.settleBand vc oc c = t.highestOnset vc oc :=
  if_pos h

theorem Tables.settleBand_of_no_onset_above (h : t.highestOnset vc oc ≤ c) :
    t.settleBand vc oc c = if t.releaseAt vc oc c then c - 1 else c := by
  refine (if_neg (Nat.not_lt.mpr h)).trans ?_
  unfold Tables.releaseAt
  cases t.band c with
  | none => rfl
  | some d => rfl

end settle

/-- Settles O27: u is the model's highest onset; above c it is taken, otherwise c's release decides. -/
theorem bandSettles : Obligations.BandSettles := by
  unfold Obligations.BandSettles
  intro t vc oc c
  simp only [← Tables.onsetAt_iff, ← Tables.releaseAt_iff]
  refine ⟨t.highestOnset vc oc, fun _ _ known onset => Tables.le_highestOnset known onset, ?attained,
    Tables.settleBand_of_onset_above, ?released, ?kept⟩
  case attained =>
    refine or_iff_not_imp_left.mpr fun some_onset => ?_
    exact ⟨Nat.pos_of_ne_zero some_onset, Tables.highestOnset_le, Tables.onsetAt_highestOnset some_onset⟩
  case released =>
    intro below _ release
    rw [Tables.settleBand_of_no_onset_above below, if_pos release]
  case kept =>
    intro below kept
    have no_release : ¬ t.releaseAt vc oc c = true := fun release => kept ⟨Tables.pos_of_releaseAt release, release⟩
    rw [Tables.settleBand_of_no_onset_above below, if_neg no_release]

end Sys2Proof.Machine
end

section
/-! SUPPORT. What one operation of the part can do, said once: `Move` lists the changes of state that the operations
are made of, each with the conditions under which the model makes it, and `step_moves` says that every step is a run
of moves, with at most one visit of a composition pass before them. A law of the state holds after every step when
each move and the visit keep it. -/

namespace Sys2Proof.Machine

/-! ## The moves -/

/-- What the laws of the cascade, the shoulder and closure protection read of a Gantry Delivery Record. -/
def DeliveryRec.reading (r : DeliveryRec) : Option Signing × Bool × List Nat :=
  (r.demanded, r.state.out, r.failedLanes)

/-- What a shoulder order becomes without a move of its front: an opening halts or goes on (R135), or the merge hold
of a closing starts (R137). -/
inductive ShoulderOrder.Reread (o : ShoulderOrder) : ShoulderOrder → Prop
  | halts (phase : o.phase = .opening) : o.Reread { o with phase := .halted }
  | resumes (phase : o.phase = .halted) : o.Reread { o with phase := .opening }
  | holds (phase : o.phase = .closing) (n : Nat) : o.Reread { o with mergeHold := some n }

/-- The register and the lists after a road closure is accepted (R119, R120). -/
def State.withRoad (id : Nat) (road : RoadClosure) (s : State) : State :=
  { s with closures := { s.closures with
      register := s.closures.register ++ [{ id := id, slot := s.closures.freeSlot, body := .road road }],
      overlays := addOverlays id (s.footprint road) s.closures.overlays } }

/-- The register and the lists after a road closure is cleared (R124). -/
def State.withoutRoad (c : Closure) (s : State) : State :=
  { s with closures := { s.closures with
      register := s.closures.register.filter (fun x => decide (x.slot ≠ c.slot)),
      overlays := dropOverlays c.id s.closures.overlays } }

/-- The register and the shoulder after a shoulder opening is accepted (R133). -/
def State.withOpening (id : Nat) (o : ShoulderOrder) (s : State) : State :=
  (s.setRegister (s.closures.register ++ [{ id := id, slot := s.closures.freeSlot, body := .shoulder o }])).setShoulder
    o.lastGantry .opened

/-- A shoulder order of the register replaced. -/
def State.withShoulder (slot : Nat) (o : ShoulderOrder) (s : State) : State :=
  s.setRegister (putShoulder s.closures.register slot o)

/-- The table store replaced by an accepted load, and the table-checked flag clear (R4). -/
def State.withTables (t : Tables) (s : State) : State :=
  { s with tables := t, modeControl := { s.modeControl with tableChecked := false } }

/-- A visit of a pass to a gantry, less the reports of CLOSURE_UNPROTECTED. -/
def State.composed (g : Nat) (s : State) : State := { s.visit g with alerts := s.alerts }

/-- One change of state that the operations are made of, with what the model has checked or settled when it makes
the change. -/
inductive Move (s : State) : State → Prop
  /-- The parts that no law of the tables, the signs or the closures reads. -/
  | clerk (p : List Instr) (q : Sequencer) (w : List InjectionResult) (c : Centre) (e : Nat) (o : Option Nat) :
      Move s { s with pending := p, sequencer := q, waiting := w, centre := c, evaluationsAsked := e, countOwed := o }
  /-- Station Records replaced by as many, of as many lanes. -/
  | stations (l : List StationRec) (length : l.length = s.stations.length)
      (lanes : (∀ r ∈ s.stations, r.lanes.length = Config.maxLanes) → ∀ r ∈ l, r.lanes.length = Config.maxLanes) :
      Move s { s with stations := l }
  | raised (k : AlertKey) (other : k ≠ linkExceptionKey) : Move s (s.raise k)
  | lowered (k : AlertKey) : Move s (s.lower k)
  | delivered (ns : List CarriedNotice) : Move s { s with alerts := s.alerts.deliver ns }
  | acknowledged (scope : AckScope) : Move s (s.alertAck scope).1
  | masked (kind : AlertKind) (m : Bool) : Move s (s.alertMask kind m).1
  | alertsCleared : Move s s.clearAlerts
  | excepted (c : Capture) : Move s (s.noteException c)
  /-- The link changed, its counts kept in range and the freeze of the capture record as it was. -/
  | linked (l : Link) (counts : s.link.CountsWf → l.CountsWf) (frozen : l.frozen = s.link.frozen) :
      Move s { s with link := l }
  | wasReset : Move s { State.reset with pending := s.pending }
  | released (rate : BitVec 2) (trunk : BitVec 7) (high : Bool) (asserted : s.resetAsserted = true) :
      Move s (s.release rate trunk high)
  | counted (n : Nat) : Move s { s with modeControl := { s.modeControl with startupCount := n } }
  | started (standby : s.mode = .standby) : Move s s.enterStartup
  | activated (startup : s.mode = .startup) : Move s ((s.setMode .active).requestPass s.lastGantry)
  | stopped (signing : s.signing = true) : Move s (((s.setMode .standby).stopDemands).clearDemands)
  | loaded (t : Tables) (unconfigured : s.mode = .unconfigured)
      (accepted : ∃ sect length first records, s.tables.load sect length first records = .inl t) :
      Move s (s.withTables t)
  | unloaded (t : Tables) (standby : s.mode = .standby)
      (accepted : ∃ sect length first records, s.tables.load sect length first records = .inl t) :
      Move s ((((((s.withTables t).setMode .unconfigured).emptyRecords).resetSpeed).resetClosures).resetComposer)
  | measured (unreset : s.resetAsserted = false) (unconfigured : s.configured = false)
      (passed : s.tables.crossCheck s.straps.trunkAddress = none) :
      Move s ((({ s with modeControl := { s.modeControl with mode := .standby, tableChecked := true } } :
        State).emptyRecords).resetSpeed)
  | restarted : Move s (((((({ s with modeControl := { s.modeControl with
      mode := if s.modeControl.tableChecked then .standby else .unconfigured, startupCount := 0 } } :
        State).emptyRecords).resetSpeed).resetClosures).clearDemands))
  | passRequested (h : Nat) : Move s (s.requestPass h)
  /-- Control records changed but for their demanded limits. -/
  | controlled (l : List GantryControl) (demands : l.map GantryControl.demanded = s.control.map GantryControl.demanded) :
      Move s { s with control := l }
  | limitAccepted (o : LimitOrder) (configured : s.configured = true) (fresh : s.idHeldBy o.id = none)
      (room : s.limitOrders.length < Config.limitRegisterSize) (range : o.firstGantry ≤ o.lastGantry)
      (known : o.lastGantry < s.gantryCount) : Move s { s with limitOrders := s.limitOrders ++ [o] }
  | limitCleared (id : Nat) :
      Move s { s with limitOrders := s.limitOrders.filter (fun x => decide (x.id ≠ id)) }
  | roadAccepted (id : Nat) (road : RoadClosure) (configured : s.configured = true) (fresh : s.idHeldBy id = none)
      (room : s.closures.register.length < Config.closureRegisterSize) (known : road.site < s.gantryCount)
      (settled : road.effective = road.site)
      (lists : ∀ x ∈ s.footprint road, (s.closures.overlay x.1 x.2).length < Config.overlaySize) :
      Move s ((s.withRoad id road).requestPass road.site)
  | roadCleared (c : Closure) (r : RoadClosure) (held : c ∈ s.closures.register) (road : c.body = .road r) :
      Move s (s.withoutRoad c)
  | openingAccepted (id : Nat) (o : ShoulderOrder) (configured : s.configured = true) (fresh : s.idHeldBy id = none)
      (room : s.closures.register.length < Config.closureRegisterSize) (range : o.firstGantry ≤ o.lastGantry)
      (known : o.lastGantry < s.gantryCount) (apart : s.overlapping o.firstGantry o.lastGantry = none)
      (phase : o.phase = .opening ∨ o.phase = .halted) (front : o.front = some o.lastGantry)
      (hold : o.mergeHold = none) : Move s (s.withOpening id o)
  | reread (slot : Nat) (o o' : ShoulderOrder) (held : (slot, o) ∈ s.closures.shoulderOrders) (change : o.Reread o') :
      Move s (s.withShoulder slot o')
  | openingEnded (slot : Nat) (o : ShoulderOrder) (held : (slot, o) ∈ s.closures.shoulderOrders)
      (phase : o.phase = .opening) (front : o.front = some o.firstGantry) :
      Move s (s.withShoulder slot { o with phase := .opened, front := none })
  | openingMoved (slot : Nat) (o : ShoulderOrder) (g : Nat) (p : ShoulderPhase)
      (held : (slot, o) ∈ s.closures.shoulderOrders) (phase : o.phase = .opening) (front : o.front = some g)
      (inside : g ≠ o.firstGantry) (next : p = .opening ∨ p = .halted) :
      Move s ((s.withShoulder slot { o with phase := p, front := some (g - 1) }).setShoulder (g - 1) .opened)
  | closingStarted (slot : Nat) (o : ShoulderOrder) (h : Nat) (m : Option Nat)
      (held : (slot, o) ∈ s.closures.shoulderOrders) (phase : o.phase ≠ .closing)
      (opened : s.firstOpen o.firstGantry o = some h) :
      Move s (((s.withShoulder slot { o with phase := .closing, front := some h, mergeHold := m }).setShoulder h
        .merge).requestPass h)
  | closingMoved (slot : Nat) (o : ShoulderOrder) (f h : Nat) (m : Option Nat)
      (held : (slot, o) ∈ s.closures.shoulderOrders) (phase : o.phase = .closing) (front : o.front = some f)
      (opened : (s.setShoulder f .closed).firstOpen (f + 1) o = some h) :
      Move s ((((s.setShoulder f .closed).withShoulder slot
        { o with phase := .closing, front := some h, mergeHold := m }).setShoulder h .merge).requestPass h)
  | closingEnded (slot : Nat) (o : ShoulderOrder) (f : Nat) (held : (slot, o) ∈ s.closures.shoulderOrders)
      (phase : o.phase = .closing) (front : o.front = some f)
      (none_open : (s.setShoulder f .closed).firstOpen (f + 1) o = none) :
      Move s (((s.setShoulder f .closed).setRegister
        (s.closures.register.filter (fun c => decide (c.slot ≠ slot)))).requestPass o.lastGantry)
  | holdsTicked : Move s (s.setRegister (s.closures.register.map Closure.tick))
  /-- Gantry Delivery Records changed in what no law reads of them. -/
  | recorded (l : List DeliveryRec)
      (readings : l.map DeliveryRec.reading = s.composer.delivery.map DeliveryRec.reading) :
      Move s { s with composer := { s.composer with delivery := l } }
  /-- A gantry judged, with the passes that a change of its delivery state or failed lanes brings (R126, R153). -/
  | judged (g : Nat) (r : DeliveryRec) (demand : r.demanded = (s.deliveryRec g).demanded) :
      Move s (((s.setDelivery g r).requestSites g).requestPass g)
  | queued (q : List QueueEntry)
      (once : (s.composer.queue.map QueueEntry.gantry).Nodup → (q.map QueueEntry.gantry).Nodup)
      (quiet : s.signing = false → s.composer.queue = [] → q = []) :
      Move s { s with composer := { s.composer with queue := q } }
  | rotated (n : Nat) : Move s { s with composer := { s.composer with rotation := n } }

/-- A run of moves. -/
abbrev Moves : State → State → Prop := Relation.ReflTransGen Move

/-- A law that each move keeps holds after a run of moves. -/
theorem Moves.keep {P : State → Prop} (move : ∀ s t, Move s t → P s → P t) {s t : State} (h : Moves s t)
    (k : P s) : P t := by
  induction h with
  | refl => exact k
  | tail _ m ih => exact move _ _ m ih

theorem Moves.of_eq {s t : State} (h : t = s) : Moves s t := h ▸ .refl

theorem Moves.ite {s t u : State} {c : Prop} [Decidable c] (h : c → Moves s t) (k : ¬ c → Moves s u) :
    Moves s (if c then t else u) := by
  split
  · exact h ‹_›
  · exact k ‹_›

theorem Moves.foldl {α : Type} {f : State → α → State} {xs : List α} (h : ∀ s, ∀ x ∈ xs, Moves s (f s x)) :
    ∀ s, Moves s (xs.foldl f s) := by
  induction xs with
  | nil => exact fun _ => .refl
  | cons x xs ih =>
    exact fun s => (h s x List.mem_cons_self).trans (ih (fun t y hy => h t y (List.mem_cons_of_mem _ hy)) _)

/-- A change of the bookkeeping parts alone is a move. -/
theorem Touches.clerk {s t : State} (h : Touches [.pending, .sequencer, .waiting, .centre, .evaluationsAsked,
    .countOwed] s t) : Moves s t := by
  have e : t = { s with
      pending := t.pending, sequencer := t.sequencer, waiting := t.waiting, centre := t.centre,
      evaluationsAsked := t.evaluationsAsked, countOwed := t.countOwed } := by
    simpa using h.rebuild
  rw [e]
  exact .single (.clerk _ _ _ _ _ _)

end Sys2Proof.Machine
end

section
/-! SUPPORT. The reports, the records and the registers as runs of moves: the operations of the Alert Unit, of
measurement, of Speed Control and of the Closure Unit. -/

namespace Sys2Proof.Machine

/-! ## Reports (R173, R174) -/

/-- The Alert Unit after falls and then rises. -/
def AlertUnit.reported (falls rises : List AlertKey) (u : AlertUnit) : AlertUnit :=
  rises.foldl (fun v k => v.rise k) (falls.foldl (fun v k => v.fall k) u)

theorem State.reportAll_alerts (s : State) (falls rises : List AlertKey) :
    s.reportAll falls rises = { s with alerts := s.alerts.reported falls rises } := by
  have lower : ∀ (ks : List AlertKey) (t : State), ks.foldl (fun (t : State) k => t.lower k) t =
      { t with alerts := ks.foldl (fun v k => v.fall k) t.alerts } := by
    intro ks
    induction ks with
    | nil => exact fun _ => rfl
    | cons k ks ih => exact fun t => ih _
  have raise : ∀ (ks : List AlertKey) (t : State), ks.foldl (fun (t : State) k => t.raise k) t =
      { t with alerts := ks.foldl (fun v k => v.rise k) t.alerts } := by
    intro ks
    induction ks with
    | nil => exact fun _ => rfl
    | cons k ks ih => exact fun t => ih _
  unfold State.reportAll
  rw [raise, lower]
  rfl

theorem alertKey_ne_linkExceptionKey {kind : AlertKind} {a b : Nat} (h : kind ≠ .linkException) :
    alertKey kind a b ≠ linkExceptionKey := fun e => h (congrArg AlertKey.kind e)

variable (s : State)

theorem State.reportAll_moves (falls : List AlertKey) {rises : List AlertKey}
    (other : ∀ k ∈ rises, k ≠ linkExceptionKey) : Moves s (s.reportAll falls rises) :=
  (Moves.foldl (f := fun (t : State) k => t.lower k) (fun _ k _ => .single (.lowered k)) s).trans
    (Moves.foldl (f := fun (t : State) k => t.raise k) (fun _ k hk => .single (.raised k (other k hk))) _)

/-- Reports of one kind, for each of some subjects. -/
theorem State.reportKind_moves {kind : AlertKind} (h : kind ≠ .linkException) (falls rises : List Nat) :
    Moves s (s.reportAll (falls.map (alertKey kind ·)) (rises.map (alertKey kind ·))) := by
  refine s.reportAll_moves _ ?_
  simp only [List.mem_map]
  rintro k ⟨n, -, rfl⟩
  exact alertKey_ne_linkExceptionKey h

theorem State.reportChange_moves {k : AlertKey} (other : k ≠ linkExceptionKey) (a b : Bool) :
    Moves s (s.reportChange k a b) := by
  cases a <;> cases b
  · exact .refl
  · exact .single (.raised k other)
  · exact .single (.lowered k)
  · exact .refl

theorem State.reportHealth_moves (n : Nat) (changes : List (Nat × Health × Health)) :
    Moves s (s.reportHealth n changes) := by
  refine s.reportAll_moves _ ?_
  simp only [List.mem_flatMap]
  rintro k ⟨x, -, hk⟩
  generalize x.2.2 = health at hk
  cases health <;> simp only [healthKeys, List.not_mem_nil, List.mem_singleton] at hk
  all_goals exact hk ▸ alertKey_ne_linkExceptionKey (by decide)

theorem State.lowerTableBound_moves : Moves s s.lowerTableBound :=
  Moves.foldl (f := fun (t : State) k => t.lower k) (fun _ k _ => .single (.lowered k)) s

theorem State.overrun_moves : Moves s { s with alerts := s.alerts.event overrunKey } :=
  (Relation.ReflTransGen.single (.raised overrunKey (alertKey_ne_linkExceptionKey (by decide)))).tail
    (.lowered overrunKey)

/-! ## The Report Queue (R97, R169) -/

theorem State.offerReport_moves (b : ReportBody) : Moves s (s.offerReport b) :=
  ((s.offerReport_touches b).mono (by decide)).clerk

theorem State.offerResult_moves (r : InjectionResult) : Moves s (s.offerResult r) :=
  ((s.offerResult_touches r).mono (by decide)).clerk

/-! ## Measurement -/

theorem StationRec.putLanes_length (r : StationRec) (ls : List (Nat × LaneRec)) :
    (r.putLanes ls).lanes.length = r.lanes.length := by
  suffices h : ∀ l : List LaneRec, (ls.foldl (fun ls x => ls.set x.1 x.2) l).length = l.length from h _
  induction ls with
  | nil => exact fun _ => rfl
  | cons x ls ih => exact fun l => (ih _).trans (List.length_set ..)

/-- A Station Record of a list of records of six lanes has six lanes, and so has the empty record beyond its end. -/
theorem State.stationRec_lanes (h : ∀ r ∈ s.stations, r.lanes.length = Config.maxLanes) (n : Nat) :
    (s.stationRec n).lanes.length = Config.maxLanes := by
  unfold State.stationRec
  rw [List.getD_eq_getElem?_getD]
  cases hn : s.stations[n]? with
  | none => simp [StationRec.empty]
  | some r => exact h r (List.mem_of_getElem? hn)

theorem State.setStation_moves (n : Nat) (r : StationRec) (h : r.lanes.length = (s.stationRec n).lanes.length) :
    Moves s (s.setStation n r) := by
  refine .single (.stations _ (List.length_set ..) fun all x hx => ?_)
  rcases List.mem_or_eq_of_mem_set hx with hx | rfl
  · exact all x hx
  · exact h.trans (s.stationRec_lanes all n)

theorem State.supervise_moves (n : Nat) : Moves s (s.supervise n) :=
  ((s.setStation_moves n _ (StationRec.putLanes_length _ _)).trans (State.reportHealth_moves _ _ _)).trans
    (Moves.foldl (f := fun (t : State) r => t.offerResult r) (fun t r _ => t.offerResult_moves r) _)

theorem State.clearLane_moves (n l : Nat) : Moves s (s.clearLane n l) :=
  (s.setStation_moves n _ (List.length_set ..)).trans (State.reportHealth_moves _ _ _)

theorem State.startRun_moves (n l : Nat) (v : LaneValues) (k : Nat) : Moves s (s.startRun n l v k) :=
  s.setStation_moves n _ (List.length_set ..)

theorem State.take_moves (n : Nat) (v : List LaneValues) : Moves s (s.take n v) := by
  unfold State.take
  dsimp only
  refine Relation.ReflTransGen.trans ?_ (State.reportChange_moves _ (alertKey_ne_linkExceptionKey (by decide)) _ _)
  refine Relation.ReflTransGen.trans ?_ (State.setStation_moves _ n _ ?_)
  · exact (s.setStation_moves n _ (StationRec.putLanes_length _ _)).trans (State.supervise_moves _ n)
  · rfl

theorem State.notePoll_moves (n : Nat) (p : PollResult) (r : Option Reply) : Moves s (s.notePoll n p r) :=
  s.setStation_moves n _ rfl

theorem State.judgeOpen_moves (n : Nat) (r : Option Reply) : Moves s (s.judgeOpen n r) := by
  unfold State.judgeOpen
  split
  · exact s.notePoll_moves _ _ _
  · refine .ite (fun _ => s.notePoll_moves _ _ _) fun _ => ?_
    split
    · exact s.notePoll_moves _ _ _
    · exact s.notePoll_moves _ _ _
    · refine .ite (fun _ => s.notePoll_moves _ _ _) fun _ => ?_
      exact .ite (fun _ => s.notePoll_moves _ _ _) fun _ => (s.notePoll_moves _ _ _).trans (State.take_moves _ n _)

theorem State.judgeIvr_moves (a : Nat) (r : Option Reply) : Moves s (s.judgeIvr a r) := by
  unfold State.judgeIvr
  split
  · exact .refl
  · exact .ite (fun _ => .refl) fun _ => .ite (fun _ => s.judgeOpen_moves _ r) fun _ => s.setStation_moves _ _ rfl

theorem State.openInterval_moves : Moves s s.openInterval := by
  refine .single (.stations _ (List.length_map ..) fun all r hr => ?_)
  obtain ⟨x, hx, rfl⟩ := List.mem_map.mp hr
  exact all x hx

theorem StationRec.missInterval_lanes (r : StationRec) : r.missInterval.lanes = r.lanes := by
  unfold StationRec.missInterval
  split <;> rfl

theorem StationRec.close_length (n k : Nat) (d : StationDesc) (r : StationRec) :
    (r.close n k d).lanes.length = r.lanes.length :=
  (StationRec.putLanes_length _ _).trans (congrArg _ r.missInterval_lanes)

theorem State.closeReduction_moves : Moves s s.closeReduction := by
  have closed : Moves s { s with stations := s.stations.mapIdx (fun i r =>
      if i < s.stationCount then r.close i s.sequencer.interval (s.tables.station i) else r) } := by
    refine .single (.stations _ (List.length_mapIdx ..) fun all r hr => ?_)
    obtain ⟨i, hi, rfl⟩ := List.mem_mapIdx.mp hr
    have h := all _ (List.getElem_mem hi)
    split
    · exact (StationRec.close_length ..).trans h
    · exact h
  have lost := closed.trans (Moves.foldl (xs := List.range s.stationCount)
    (f := fun (t : State) (i : Nat) => t.reportChange (alertKey .stationLost i)
      ((s.stationRec i).lost (s.tables.station i))
      ((State.stationRec { s with stations := s.stations.mapIdx (fun i r =>
        if i < s.stationCount then r.close i s.sequencer.interval (s.tables.station i) else r) } i).lost
          (s.tables.station i)))
    (fun t i _ => t.reportChange_moves (alertKey_ne_linkExceptionKey (by decide)) _ _) _)
  exact .ite (fun _ => lost.trans ((touches_evaluationsAsked _ _).mono (by decide)).clerk) fun _ => lost

/-! ## Speed Control -/

theorem State.requestPass_moves (h : Nat) : Moves s (s.requestPass h) := .single (.passRequested h)

theorem State.evaluateGantry_demanded (g : Nat) : (s.evaluateGantry g).demanded = (s.gantryControl g).demanded := by
  unfold State.evaluateGantry
  dsimp only
  split
  · split
    · rfl
    · split <;> rfl
  · rfl

/-- Control records replaced one by one keep the demanded limits when each does. -/
theorem State.mapIdxControl_demands (f : Nat → GantryControl → GantryControl)
    (h : ∀ g (hg : g < s.control.length), (f g s.control[g]).demanded = s.control[g].demanded) :
    (s.control.mapIdx f).map GantryControl.demanded = s.control.map GantryControl.demanded :=
  List.ext_getElem (by simp) fun g h1 h2 => by simpa using h g (by simpa using h2)

theorem State.gantryControl_of_lt {g : Nat} (h : g < s.control.length) : s.gantryControl g = s.control[g] := by
  unfold State.gantryControl
  rw [List.getD_eq_getElem?_getD, List.getElem?_eq_getElem h, Option.getD_some]

theorem State.evaluateBands_moves : Moves s s.evaluateBands := by
  refine ((Relation.ReflTransGen.single (.controlled (s.control.mapIdx fun g c =>
    if g < s.gantryCount then s.evaluateGantry g else c) (s.mapIdxControl_demands _ fun g hg => ?_))).trans
      (State.reportKind_moves _ (by decide) _ _)).trans (State.requestPass_moves _ _)
  split
  · rw [s.evaluateGantry_demanded, s.gantryControl_of_lt hg]
  · rfl

theorem State.setControl_moves (g : Nat) (c : GantryControl) (h : c.demanded = (s.gantryControl g).demanded) :
    Moves s (s.setControl g c) := by
  refine .single (.controlled _ (List.ext_getElem (by simp) fun i h1 h2 => ?_))
  simp only [List.getElem_map, List.getElem_set]
  split
  · rename_i e
    subst e
    rw [h, s.gantryControl_of_lt]
  · rfl

theorem State.expireDwell_moves (g : Nat) : Moves s (s.expireDwell g) := by
  have h : Moves s (s.setControl g (s.gantryControl g).expire) := s.setControl_moves g _ rfl
  exact .ite (fun _ => h.trans (State.requestPass_moves _ _)) fun _ => h

theorem State.configured_iff : s.configured = true ↔ s.mode ≠ .unconfigured := by simp [State.configured]

theorem State.limitSet_moves (id f l r : Nat) (g : Option Legend) : Moves s (s.limitSet id f l r g).1 := by
  unfold State.limitSet
  split
  · exact .refl
  · rename_i mode
    split
    · exact .refl
    · split
      · exact .refl
      · rename_i fresh
        split
        · exact .refl
        · rename_i room
          split
          · exact .refl
          · rename_i range
            exact (Relation.ReflTransGen.single (.limitAccepted
              { id := id, firstGantry := f, lastGantry := l, cap := _, legend := g } (s.configured_iff.mpr mode) fresh
              (Nat.lt_of_not_le room) (by dsimp only; omega) (by dsimp only; omega))).trans
              (State.requestPass_moves _ _)

theorem State.clearLimit_moves (id : Nat) : Moves s (s.clearLimit id).1 := by
  unfold State.clearLimit
  split
  · exact .refl
  · exact (Relation.ReflTransGen.single (.limitCleared id)).trans (State.requestPass_moves _ _)

/-! ## The Closure Unit -/

theorem State.requestPass_setAlerts (h : Nat) (u : AlertUnit) :
    ({ s with alerts := u } : State).requestPass h = { s.requestPass h with alerts := u } := by
  unfold State.requestPass
  split <;> rename_i signing
  · rw [if_pos (show s.signing = true from signing)]
  · rw [if_neg (show ¬ s.signing = true from signing)]

/-- A pass request and reports may be taken in either order. -/
theorem State.requestPass_reportAll (h : Nat) (falls rises : List AlertKey) :
    (s.reportAll falls rises).requestPass h = (s.requestPass h).reportAll falls rises := by
  rw [State.reportAll_alerts, State.reportAll_alerts, State.requestPass_setAlerts,
    (s.requestPass_touches h .alerts (by decide) : (s.requestPass h).alerts = s.alerts)]

theorem State.setShoulder_reportAll (g : Nat) (x : ShoulderState) (falls rises : List AlertKey) :
    (s.reportAll falls rises).setShoulder g x = (s.setShoulder g x).reportAll falls rises := by
  rw [State.reportAll_alerts, State.reportAll_alerts]
  rfl

theorem State.closeRoad_moves (id site : Nat) (ls : Option (List Nat)) (r : Nat) :
    Moves s (s.closeRoad id site ls r).1 := by
  unfold State.closeRoad
  split
  · exact .refl
  · rename_i mode
    split
    · exact .refl
    · split
      · exact .refl
      · rename_i fresh
        split
        · exact .refl
        · rename_i room
          split
          · exact .refl
          · rename_i place
            dsimp only
            split
            · exact .refl
            · rename_i lists
              refine .single (.roadAccepted id
                { site := site, lanes := ls, cap := (s.par.settleCap r).1, effective := site, unprotected := false }
                (s.configured_iff.mpr mode) fresh (Nat.lt_of_not_le room) ?_ rfl ?_)
              · simp only [State.siteOk, Bool.not_eq_true', Bool.not_eq_false, Bool.and_eq_true,
                  decide_eq_true_eq] at place
                exact place.1
              · simpa using lists

theorem State.changeRegister_moves {s : State} {r : List Closure} (h : Moves s (s.setRegister r)) :
    Moves s (s.changeRegister r) :=
  h.trans (State.reportKind_moves _ (by decide) _ _)

/-- A register change with the shoulder state it brings, its reports last. -/
theorem State.changeRegister_setShoulder (r : List Closure) (g : Nat) (x : ShoulderState) :
    ∃ falls rises : List Nat, (s.changeRegister r).setShoulder g x =
      ((s.setRegister r).setShoulder g x).reportAll (falls.map (alertKey .shoulderHalted ·))
        (rises.map (alertKey .shoulderHalted ·)) :=
  ⟨_, _, State.setShoulder_reportAll _ _ _ _ _⟩

theorem State.openingPhase_cases (g : Nat) : s.openingPhase g = .opening ∨ s.openingPhase g = .halted := by
  unfold State.openingPhase
  split
  · exact .inr rfl
  · exact .inl rfl

theorem State.shoulderOpen_moves (id f l : Nat) (a : Bool) : Moves s (s.shoulderOpen id f l a).1 := by
  unfold State.shoulderOpen
  split
  · exact .refl
  · rename_i active
    split
    · exact .refl
    · split
      · exact .refl
      · rename_i fresh
        split
        · exact .refl
        · rename_i room
          split
          · exact .refl
          · rename_i range
            split
            · exact .refl
            · rename_i apart
              split
              · exact .refl
              · split
                · exact .refl
                · simp only [State.shoulderRange, Bool.not_eq_true', Bool.not_eq_false, Bool.and_eq_true,
                    decide_eq_true_eq] at range
                  unfold State.startOpening
                  obtain ⟨falls, rises, h⟩ := s.changeRegister_setShoulder (s.closures.register ++ [{
                    id := id, slot := s.closures.freeSlot, body := .shoulder { firstGantry := f, lastGantry := l, phase := s.openingPhase l, front := some l,
                                                                                mergeHold := none } }]) l .opened
                  dsimp only
                  rw [h]
                  have configured : s.configured = true := by
                    rw [s.configured_iff, not_not.mp active]
                    decide
                  exact ((Relation.ReflTransGen.single (.openingAccepted id
                    { firstGantry := f, lastGantry := l, phase := s.openingPhase l, front := some l, mergeHold := none } configured fresh
                    (Nat.lt_of_not_le room) range.1.1 range.1.2 apart (s.openingPhase_cases l) rfl rfl)).trans
                    (State.reportKind_moves _ (by decide) _ _)).trans (State.requestPass_moves _ _)

/-- The order of a gantry's front is in the register, and its front is the gantry. -/
theorem ClosureUnit.fronting_spec {u : ClosureUnit} {g slot : Nat} {o : ShoulderOrder}
    (h : u.fronting g = some (slot, o)) : (slot, o) ∈ u.shoulderOrders ∧ o.front = some g :=
  ⟨List.mem_of_find?_eq_some h, by simpa using List.find?_some h⟩

theorem State.stepOpening_moves {slot g : Nat} {o : ShoulderOrder} (held : (slot, o) ∈ s.closures.shoulderOrders)
    (front : o.front = some g) (phase : o.phase = .opening) : Moves s (s.stepOpening slot o g) := by
  unfold State.stepOpening
  split
  · rename_i first
    exact State.changeRegister_moves (.single (.openingEnded slot o held phase (first ▸ front)))
  · rename_i inside
    obtain ⟨falls, rises, h⟩ := s.changeRegister_setShoulder (putShoulder s.closures.register slot
      { o with phase := s.openingPhase (g - 1), front := some (g - 1) }) (g - 1) .opened
    rw [h]
    exact ((Relation.ReflTransGen.single (.openingMoved slot o g _ held phase front inside
      (s.openingPhase_cases _))).trans (State.reportKind_moves _ (by decide) _ _)).trans (State.requestPass_moves _ _)

/-- A move of a closing's front is a register change, a shoulder state and a pass, and then the reports. -/
theorem State.moveClosing_eq (slot : Nat) (o : ShoulderOrder) (h : Nat) :
    ∃ falls rises : List Nat, s.moveClosing slot o h =
      (((s.withShoulder slot { o with
          phase := .closing, front := some h, mergeHold := if s.gantryOut h then some s.holdTime else none }).setShoulder h
        .merge).requestPass h).reportAll (falls.map (alertKey .shoulderHalted ·))
          (rises.map (alertKey .shoulderHalted ·)) := by
  obtain ⟨falls, rises, e⟩ := s.changeRegister_setShoulder (putShoulder s.closures.register slot { o with
    phase := .closing, front := some h, mergeHold := if s.gantryOut h then some s.holdTime else none }) h .merge
  refine ⟨falls, rises, ?_⟩
  unfold State.moveClosing
  rw [e, State.requestPass_reportAll]
  rfl

theorem State.expireHold_moves (n : Nat) : Moves s (s.expireHold n) := by
  unfold State.expireHold
  split
  · rename_i slot o found
    have held := List.mem_of_find?_eq_some found
    have same : slot = n := by simpa using List.find?_some found
    subst same
    split
    · rename_i f m phase front hold
      dsimp only
      split
      · rename_i h opened
        obtain ⟨falls, rises, e⟩ := (s.setShoulder f .closed).moveClosing_eq slot o h
        rw [e]
        exact (Relation.ReflTransGen.single (.closingMoved slot o f h _ held phase front opened)).trans
          (State.reportKind_moves _ (by decide) _ _)
      · rename_i none_open
        exact .single (.closingEnded slot o f held phase front none_open)
    · exact .refl
  · exact .refl

theorem State.clearRoad_moves {c : Closure} {r : RoadClosure} (held : c ∈ s.closures.register) (road : c.body = .road r) :
    Moves s (s.clearRoad c r).1 :=
  ((Relation.ReflTransGen.single (.roadCleared c r held road)).trans
    (State.reportChange_moves _ (alertKey_ne_linkExceptionKey (by decide)) _ _)).trans (State.requestPass_moves _ _)

theorem ClosureUnit.mem_shoulderOrders {u : ClosureUnit} {slot : Nat} {o : ShoulderOrder} :
    (slot, o) ∈ u.shoulderOrders ↔ ∃ c ∈ u.register, c.slot = slot ∧ c.body = .shoulder o := by
  unfold ClosureUnit.shoulderOrders
  rw [List.mem_filterMap]
  refine exists_congr fun c => and_congr_right fun _ => ?_
  split <;> rename_i e <;> simp [e]

theorem State.clearShoulder_moves {c : Closure} {o : ShoulderOrder} (held : c ∈ s.closures.register)
    (body : c.body = .shoulder o) : Moves s (s.clearShoulder c o).1 := by
  unfold State.clearShoulder
  split
  · exact .refl
  · split
    · exact .refl
    · rename_i phase
      split
      · rename_i h opened
        obtain ⟨falls, rises, e⟩ := s.moveClosing_eq c.slot { o with mergeHold := none } h
        dsimp only
        rw [e]
        exact (Relation.ReflTransGen.single (.closingStarted c.slot o h _
          (ClosureUnit.mem_shoulderOrders.mpr ⟨c, held, rfl, body⟩) phase opened)).trans
          (State.reportKind_moves _ (by decide) _ _)
      · exact .refl

theorem State.orderClear_moves (id : Nat) : Moves s (s.orderClear id).1 := by
  unfold State.orderClear
  split
  · rename_i c found
    have held := List.mem_of_find?_eq_some found
    split
    · rename_i r body
      exact s.clearRoad_moves held body
    · rename_i o body
      exact s.clearShoulder_moves held body
  · exact s.clearLimit_moves id

end Sys2Proof.Machine
end

section
/-! SUPPORT. The signs and the link as runs of moves: the operations of the Aspect Composer, of Sign Delivery and of
the Link Controller. -/

namespace Sys2Proof.Machine

variable (s : State)

/-! ## The Sign Command Queue (R146) -/

/-- The queue holds no gantry twice. -/
abbrev OnePerGantry (q : List QueueEntry) : Prop := (q.map QueueEntry.gantry).Nodup

/-- A change of the Sign Command Queue that keeps one entry per gantry, and that outside STARTUP and ACTIVE leaves
an empty queue empty. -/
structure QueueChange (signing : Bool) (before after : List QueueEntry) : Prop where
  once : OnePerGantry before → OnePerGantry after
  quiet : signing = false → before = [] → after = []

theorem QueueChange.refl (b : Bool) (q : List QueueEntry) : QueueChange b q q := ⟨id, fun _ h => h⟩

theorem QueueChange.trans {b : Bool} {p q r : List QueueEntry} (h : QueueChange b p q) (k : QueueChange b q r) :
    QueueChange b p r := ⟨fun x => k.once (h.once x), fun x y => k.quiet x (h.quiet x y)⟩

theorem QueueChange.filter (b : Bool) (q : List QueueEntry) (p : QueueEntry → Bool) : QueueChange b q (q.filter p) :=
  ⟨fun h => h.sublist (List.filter_sublist.map _), fun _ h => by simp [h]⟩

/-- A placement gives no gantry a second entry (R146). -/
theorem State.place_once (g : Nat) (cls : EntryClass) (h : OnePerGantry s.composer.queue) :
    OnePerGantry (s.place g cls).composer.queue := by
  rw [State.place_eq]
  dsimp only [OnePerGantry] at h ⊢
  split
  · rw [List.map_map]
    convert h using 2
    funext e
    dsimp only [Function.comp]
    split <;> rfl
  · rename_i absent
    rw [List.map_append, List.nodup_append]
    refine ⟨h, by simp, ?_⟩
    rintro a ha b hb rfl
    obtain ⟨e, he, hg⟩ := List.mem_map.mp ha
    exact absent ⟨e, he, by simpa [← hg] using hb⟩

theorem QueueChange.place (g : Nat) (cls : EntryClass) (signing : s.signing = true) :
    QueueChange s.signing s.composer.queue (s.place g cls).composer.queue :=
  ⟨s.place_once g cls, fun h => absurd signing (by simp [h])⟩

theorem State.queued_moves {q : List QueueEntry} (h : QueueChange s.signing s.composer.queue q) :
    Moves s { s with composer := { s.composer with queue := q } } := .single (.queued q h.once h.quiet)

theorem State.place_moves (g : Nat) (cls : EntryClass) (signing : s.signing = true) : Moves s (s.place g cls) :=
  s.queued_moves (.place s g cls signing)

theorem State.dequeue_moves (g : Nat) : Moves s (s.dequeue g) := s.queued_moves (.filter _ _ _)

/-! ## Gantry Delivery Records (R145) -/

theorem State.deliveryRec_of_lt {g : Nat} (h : g < s.composer.delivery.length) :
    s.deliveryRec g = s.composer.delivery[g] := by
  unfold State.deliveryRec
  rw [List.getD_eq_getElem?_getD, List.getElem?_eq_getElem h, Option.getD_some]

theorem State.deliveryRec_of_le {g : Nat} (h : s.composer.delivery.length ≤ g) : s.deliveryRec g = .reset := by
  unfold State.deliveryRec
  rw [List.getD_eq_getElem?_getD, List.getElem?_eq_none h, Option.getD_none]

theorem State.setDelivery_same (g : Nat) : s.composer.delivery.set g (s.deliveryRec g) = s.composer.delivery := by
  by_cases h : g < s.composer.delivery.length
  · rw [s.deliveryRec_of_lt h, List.set_getElem_self]
  · exact List.set_eq_of_length_le (Nat.le_of_not_lt h)

theorem State.setDelivery_deliveryRec_of_lt {g : Nat} (r : DeliveryRec) (h : g < s.composer.delivery.length) :
    (s.setDelivery g r).deliveryRec g = r := by
  rw [State.deliveryRec_of_lt _ (by simpa [State.setDelivery] using h)]
  simp [State.setDelivery]

theorem State.setDelivery_deliveryRec_of_ne {g h : Nat} (r : DeliveryRec) (ne : h ≠ g) :
    (s.setDelivery g r).deliveryRec h = s.deliveryRec h := by
  simp [State.deliveryRec, State.setDelivery, List.getD_eq_getElem?_getD, ne.symm]

/-- Records whose readings are those before. -/
theorem State.setDelivery_readings (g : Nat) (r : DeliveryRec) (h : r.reading = (s.deliveryRec g).reading) :
    (s.composer.delivery.set g r).map DeliveryRec.reading = s.composer.delivery.map DeliveryRec.reading := by
  rw [List.map_set, h, ← List.map_set, s.setDelivery_same]

theorem State.setDelivery_moves (g : Nat) (r : DeliveryRec) (h : r.reading = (s.deliveryRec g).reading) :
    Moves s (s.setDelivery g r) := .single (.recorded _ (s.setDelivery_readings g r h))

theorem State.reachRefresh_moves (g : Nat) : Moves s (s.reachRefresh g) := by
  unfold State.reachRefresh
  dsimp only
  split
  · exact .refl
  · rename_i t _
    have h : Moves s (s.setDelivery g { s.deliveryRec g with sinceSet := some (max t (s.par.refreshTime * 1000)) }) :=
      s.setDelivery_moves g _ rfl
    refine .ite (fun c => h.trans (State.place_moves _ _ _ ?_)) fun _ => h
    simp only [Bool.and_eq_true] at c
    exact c.1.1.1

/-! ## Judgements (R148 to R155) -/

/-- What a judgement does before it is handed on: it replaces the gantry's record, its demand kept, and changes the
Sign Command Queue. -/
def Judged (g : Nat) (s t : State) : Prop :=
  ∃ (r : DeliveryRec) (q : List QueueEntry), t = { s with
      composer := { s.composer with delivery := s.composer.delivery.set g r, queue := q } } ∧
    r.demanded = (s.deliveryRec g).demanded ∧ QueueChange s.signing s.composer.queue q

theorem Judged.refl (g : Nat) : Judged g s s :=
  ⟨s.deliveryRec g, s.composer.queue, by rw [s.setDelivery_same], rfl, .refl _ _⟩

theorem Judged.setDelivery (g : Nat) (r : DeliveryRec) (demand : r.demanded = (s.deliveryRec g).demanded) :
    Judged g s (s.setDelivery g r) := ⟨r, s.composer.queue, rfl, demand, .refl _ _⟩

theorem Judged.queued (g : Nat) (q : List QueueEntry) (h : QueueChange s.signing s.composer.queue q) :
    Judged g s { s with composer := { s.composer with queue := q } } :=
  ⟨s.deliveryRec g, q, by rw [s.setDelivery_same], rfl, h⟩

variable {s} in
theorem Judged.demanded {g : Nat} {t : State} (h : Judged g s t) :
    (t.deliveryRec g).demanded = (s.deliveryRec g).demanded := by
  obtain ⟨r, q, rfl, demand, -⟩ := h
  by_cases hg : g < s.composer.delivery.length
  · rw [State.deliveryRec_of_lt _ (by simpa using hg)]
    simpa using demand
  · rw [State.deliveryRec_of_le _ (by simpa using hg), State.deliveryRec_of_le _ (Nat.le_of_not_lt hg)]

variable {s} in
theorem Judged.trans {g : Nat} {t u : State} (h : Judged g s t) (k : Judged g t u) : Judged g s u := by
  have same := h.demanded
  obtain ⟨r, q, rfl, -, change⟩ := h
  obtain ⟨r', q', rfl, demand', change'⟩ := k
  exact ⟨r', q', by simp, demand'.trans same, change.trans change'⟩

theorem State.failAttempt_judged (g : Nat) {mayPlace : Bool} (h : mayPlace = true → s.signing = true) :
    Judged g s (s.failAttempt g mayPlace) := by
  unfold State.failAttempt
  dsimp only
  split
  · split
    · exact (Judged.setDelivery s g
        { s.deliveryRec g with attempts := Config.maxAttempts, state := .failed } rfl).trans
          (.queued _ g _ (.filter _ _ _))
    · have counted : Judged g s (s.setDelivery g
          { s.deliveryRec g with attempts := (s.deliveryRec g).attempts + 1 }) := .setDelivery s g _ rfl
      split
      · rename_i place
        exact counted.trans (.queued _ g _ (.place _ g _ (h place)))
      · exact counted
  · exact .refl s g

theorem State.enterLocal_judged (g : Nat) (status : DriverStatus) (shown : Option (List Displayed)) :
    Judged g s (s.enterLocal g status shown) :=
  (Judged.setDelivery s g { s.deliveryRec g with
    state := .inLocal, attempts := 0, status := some status,
    confirmed := shown.or (s.deliveryRec g).confirmed } rfl).trans (.queued _ g _ (.filter _ _ _))

theorem State.judgeLanes_judged (g : Nat) (status : DriverStatus) (shown : List Displayed) {mayPlace : Bool}
    (h : mayPlace = true → s.signing = true) : Judged g s (s.judgeLanes g status shown mayPlace) := by
  unfold State.judgeLanes
  dsimp only
  split
  · exact .setDelivery s g _ rfl
  · refine (Judged.setDelivery s g { s.deliveryRec g with
      confirmed := some shown,
      confirmedLegend := ((s.deliveryRec g).sent.map Signing.legend).or (s.deliveryRec g).confirmedLegend,
      status := some status,
      failedLanes := failingLanes (s.tables.gantry g) (((s.deliveryRec g).sent.map Signing.aspects).getD []) shown
        status.lampFaults } rfl).trans ?_
    exact State.failAttempt_judged _ g h

theorem State.placeQueried_judged (g : Nat) (old : DeliveryRec) (shown : List Displayed) :
    Judged g s (s.placeQueried g old shown) := by
  unfold State.placeQueried
  split
  · exact .refl s g
  · split
    · rename_i c
      simp only [Bool.and_eq_true] at c
      exact .queued s g _ (.place s g _ c.1.1)
    · exact .refl s g

/-- The Closure Unit's reading of a delivery change is a run of moves from the state before the change, which is in
the composer alone. -/
theorem State.readDeliveryChange_moves (g : Nat) (x : Composer) : ∃ c a,
    ({ s with composer := x } : State).readDeliveryChange g = { s with composer := x, closures := c, alerts := a } ∧
      Moves s { s with closures := c, alerts := a } := by
  have changed : ∀ (slot : Nat) (o o' : ShoulderOrder), (slot, o) ∈ s.closures.shoulderOrders → o.Reread o' → ∃ c a,
      ({ s with composer := x } : State).changeRegister (putShoulder s.closures.register slot o') =
        { s with composer := x, closures := c, alerts := a } ∧ Moves s { s with closures := c, alerts := a } := by
    intro slot o o' held change
    unfold State.changeRegister
    rw [State.reportAll_alerts]
    refine ⟨_, _, rfl, ?_⟩
    have h := (Relation.ReflTransGen.single (Move.reread slot o o' held change)).trans
      (State.reportKind_moves (s.withShoulder slot o') (kind := .shoulderHalted) (by decide)
        ((haltedSlots s.closures.register).filter
          (fun n => !(haltedSlots (putShoulder s.closures.register slot o')).contains n))
        ((haltedSlots (putShoulder s.closures.register slot o')).filter
          (fun n => !(haltedSlots s.closures.register).contains n)))
    rw [State.reportAll_alerts] at h
    exact h
  unfold State.readDeliveryChange
  split
  · exact ⟨s.closures, s.alerts, rfl, .refl⟩
  · rename_i slot o found
    obtain ⟨held, -⟩ := ClosureUnit.fronting_spec found
    split
    · rename_i phase _
      exact changed slot o _ held (.halts phase)
    · rename_i phase _
      exact changed slot o _ held (.resumes phase)
    · rename_i phase _
      split
      · exact ⟨_, s.alerts, rfl, .single (.reread slot o _ held (.holds phase _))⟩
      · exact ⟨s.closures, s.alerts, rfl, .refl⟩
    · exact ⟨s.closures, s.alerts, rfl, .refl⟩

theorem State.readConfirmation_moves (g : Nat) : Moves s (s.readConfirmation g) := by
  unfold State.readConfirmation
  split
  · exact .refl
  · rename_i slot o found
    obtain ⟨held, front⟩ := ClosureUnit.fronting_spec found
    split
    · exact .refl
    · split
      · rename_i phase _
        exact .ite (fun _ => s.stepOpening_moves held front phase) fun _ => .refl
      · rename_i phase _
        exact .ite (fun _ => .single (.reread slot o _ held (.holds phase _))) fun _ => .refl
      · exact .refl

/-- A delivery state that is FAILED or LOCAL on one side of a judgement alone has changed. -/
theorem DeliveryState.out_eq_of_not_moved {a b : DeliveryState}
    (h : (decide (a ≠ b) && (a.out || b.out)) = false) : b.out = a.out := by
  cases a <;> cases b <;> first | rfl | exact absurd h (by decide)

/-- A judgement handed on is a run of moves from the state before it: a change that the passes must follow is one
move with them (R126, R153 to R155). -/
theorem State.handOn_moves {s t : State} {g : Nat} (h : Judged g s t) (b : Bool) :
    Moves s (t.handOn g (s.deliveryRec g) b) := by
  unfold State.handOn
  dsimp only
  refine Moves.ite (fun _ => .trans ?_ (State.offerReport_moves _ _)) fun _ => ?_ <;>
    refine .trans ?_ (State.reportChange_moves _ (alertKey_ne_linkExceptionKey (by decide)) _ _) <;>
    refine .trans ?_ (Moves.ite (fun _ => State.readConfirmation_moves _ g) fun _ => .refl)
  all_goals
    obtain ⟨r, q, rfl, demand, change⟩ := h
    split
    · rename_i c
      have passes : ∀ c a, Moves s { s with closures := c, alerts := a } → Moves s (State.requestPass g
          (State.requestSites g { s with
            closures := c, alerts := a,
            composer := { s.composer with delivery := s.composer.delivery.set g r, queue := q } })) := by
        intro c a m
        refine (m.trans (State.queued_moves { s with closures := c, alerts := a } change)).trans (.single ?_)
        exact .judged g r demand
      split
      · obtain ⟨c, a, e, m⟩ := s.readDeliveryChange_moves g
          { s.composer with delivery := s.composer.delivery.set g r, queue := q }
        rw [e]
        exact passes c a m
      · exact passes s.closures s.alerts .refl
    · rename_i c
      refine (s.queued_moves change).trans (.single (.recorded _ ?_))
      by_cases hg : g < s.composer.delivery.length
      · refine s.setDelivery_readings g r ?_
        simp only [Bool.not_eq_true, Bool.or_eq_false_iff] at c
        rw [show State.deliveryRec { s with composer := { s.composer with
          delivery := s.composer.delivery.set g r, queue := q } } g = r from
            s.setDelivery_deliveryRec_of_lt r hg] at c
        have lanes : r.failedLanes = (s.deliveryRec g).failedLanes := (not_not.mp (of_decide_eq_false c.2)).symm
        simp only [DeliveryRec.reading, demand, DeliveryState.out_eq_of_not_moved c.1, lanes]
      · rw [List.set_eq_of_length_le (Nat.le_of_not_lt hg)]

theorem State.judgeSgs_moves (g : Nat) (reply : Option Reply) {mayPlace : Bool}
    (h : mayPlace = true → s.signing = true) : Moves s (s.judgeSgs g reply mayPlace) := by
  unfold State.judgeSgs
  dsimp only
  split
  · exact State.handOn_moves (s.failAttempt_judged g h) _
  · split
    · exact State.handOn_moves (s.failAttempt_judged g h) _
    · split
      · exact State.handOn_moves (s.enterLocal_judged g _ _) _
      · split
        · rename_i status _ _ _ _
          exact State.handOn_moves ((Judged.setDelivery s g { s.deliveryRec g with status := some status } rfl).trans
            (State.failAttempt_judged _ g h)) _
        · exact State.handOn_moves (s.judgeLanes_judged g _ _ h) _

theorem State.judgeSgq_moves (g : Nat) (reply : Option Reply) : Moves s (s.judgeSgq g reply) := by
  unfold State.judgeSgq
  dsimp only
  split
  · exact .refl
  · split
    · split
      · exact State.handOn_moves (s.enterLocal_judged g _ _) _
      · split
        · exact .refl
        · rename_i status _ _ _ list _
          exact State.handOn_moves ((Judged.setDelivery s g { s.deliveryRec g with
            confirmed := some list, status := some status,
            state := sgqState (s.inQueue g) (s.deliveryRec g).state } rfl).trans (State.placeQueried_judged _ g _ _)) _
    · exact .refl

theorem State.judgeSign_moves (q : Request) (reply : Option Reply) : Moves s (s.judgeSign q reply) := by
  unfold State.judgeSign
  split
  · exact .refl
  · split
    · exact .refl
    · refine .ite (fun _ => s.judgeSgs_moves _ _ fun h => ?_) fun _ => s.judgeSgq_moves _ _
      exact (Bool.and_eq_true_iff.mp h).1

/-! ## The Link Controller's accounts -/

theorem PerPath.forall_get {α : Type} {P : α → Prop} (v : PerPath α) :
    (∀ p, P (v.get p)) ↔ P v.one ∧ P v.two :=
  ⟨fun h => ⟨h .one, h .two⟩, fun h p => by cases p; exacts [h.1, h.2]⟩

/-- The ranges of the link's counts, path by path. -/
theorem Link.countsWf_iff (l : Link) : l.CountsWf ↔ l.nextTag < 16 ∧ l.checkRun ≤ Config.pathRun ∧
    (∀ p, l.nonValid.get p ≤ Config.pathRun) ∧ l.counters.Wf := by
  rw [PerPath.forall_get (P := (· ≤ Config.pathRun))]
  simp only [Link.CountsWf, and_assoc]

theorem PerPath.get_set_le {v : PerPath Nat} {n x : Nat} (h : ∀ p, v.get p ≤ n) (p : Path) (hx : x ≤ n) :
    ∀ q, (v.set p x).get q ≤ n := by
  intro q
  have other := h q
  cases p <;> cases q <;> first | exact hx | exact other

theorem Link.settlePath_countsWf {l : Link} (h : l.CountsWf) (x : Exchange) (p : Path) :
    (l.settlePath x p).CountsWf := by
  obtain ⟨tag, run, counts, counters⟩ := l.countsWf_iff.mp h
  unfold Link.settlePath
  split
  · split
    · exact (Link.countsWf_iff _).mpr ⟨tag, run, PerPath.get_set_le counts p (Nat.zero_le _), counters⟩
    · exact (Link.countsWf_iff _).mpr ⟨tag, run, PerPath.get_set_le counts p (Nat.min_le_left _ _), counters⟩
  · exact h

theorem Link.settlePath_frozen (l : Link) (x : Exchange) (p : Path) : (l.settlePath x p).frozen = l.frozen := by
  unfold Link.settlePath
  split
  · split <;> rfl
  · rfl

theorem Link.checkRunAfter_le (l : Link) (x : Exchange) : l.checkRunAfter x ≤ Config.pathRun := by
  unfold Link.checkRunAfter
  split
  · exact Nat.min_le_left _ _
  · exact Nat.zero_le _

theorem downKey_ne_linkExceptionKey (p : Path) : downKey p ≠ linkExceptionKey :=
  alertKey_ne_linkExceptionKey (by decide)

theorem disturbedKey_ne_linkExceptionKey : disturbedKey ≠ linkExceptionKey :=
  alertKey_ne_linkExceptionKey (by decide)

theorem State.settlePaths_moves (x : Exchange) : Moves s (s.settlePaths x) := by
  have reports : ∀ t : State, Moves t (t.reportAll
      (downChanges s.link.down ((s.link.settlePath x .one).settlePath x .two).down false)
      (downChanges s.link.down ((s.link.settlePath x .one).settlePath x .two).down true)) := by
    intro t
    refine t.reportAll_moves _ ?_
    unfold downChanges
    simp only [List.mem_map]
    rintro k ⟨p, -, rfl⟩
    exact downKey_ne_linkExceptionKey p
  have disturbed : ∀ (t : State) (a b : Bool), Moves t (t.reportChange disturbedKey a b) :=
    fun t => t.reportChange_moves disturbedKey_ne_linkExceptionKey
  have settled : s.link.CountsWf → ((s.link.settlePath x .one).settlePath x .two).CountsWf :=
    fun h => Link.settlePath_countsWf (Link.settlePath_countsWf h x .one) x .two
  have frozen : ((s.link.settlePath x .one).settlePath x .two).frozen = s.link.frozen := by
    simp only [Link.settlePath_frozen]
  unfold State.settlePaths
  dsimp only
  split
  · split
    · refine ((Relation.ReflTransGen.trans (.single (.linked _ (fun h => ?_) frozen)) (disturbed _ _ _)).trans
        (reports _)).trans (disturbed _ _ _)
      obtain ⟨tag, -, one, two, counters⟩ := settled h
      exact ⟨tag, Nat.zero_le _, one, two, counters⟩
    · refine (Relation.ReflTransGen.trans (.single (.linked _ (fun h => ?_) frozen)) (disturbed _ _ _)).trans
        (reports _)
      obtain ⟨tag, -, one, two, counters⟩ := settled h
      exact ⟨tag, Link.checkRunAfter_le _ _, one, two, counters⟩
  · exact (Relation.ReflTransGen.single (.linked _ settled frozen)).trans (reports _)

theorem oneIf_le (b : Bool) : oneIf b ≤ 1 := by cases b <;> decide

theorem Counters.settle_wf {c : Counters} (h : c.Wf) (x : Exchange) : (c.settle x).Wf := by
  obtain ⟨top, strays, errors, one, two⟩ := h
  unfold Counters.settle
  split
  · exact ⟨top, strays, errors, one, two⟩
  · rename_i full
    simp only [Counters.full, decide_eq_true_eq, Nat.not_le] at full
    have e := oneIf_le (decide (x.outcome = .timeout ∨ x.outcome = .error))
    have p := oneIf_le (x.charges .one)
    have q := oneIf_le (x.charges .two)
    refine ⟨?_, strays, ?_, ?_, ?_⟩ <;> dsimp only at * <;> omega

theorem Counters.stray_wf {c : Counters} (h : c.Wf) : c.stray.Wf := by
  obtain ⟨top, strays, errors, one, two⟩ := h
  unfold Counters.stray
  split
  · exact ⟨top, strays, errors, one, two⟩
  · exact ⟨top, Nat.min_le_left _ _, errors, one, two⟩

/-- The counters replaced by ones in range. -/
theorem State.counters_moves (c : Counters) (h : s.link.counters.Wf → c.Wf) :
    Moves s { s with link := { s.link with counters := c } } :=
  .single (.linked _ (fun ⟨tag, run, one, two, counters⟩ => ⟨tag, run, one, two, h counters⟩) rfl)

theorem State.settleCounters_moves (x : Exchange) : Moves s (s.settleCounters x) :=
  (s.counters_moves _ fun h => Counters.settle_wf h x).trans
    (State.reportChange_moves _ (alertKey_ne_linkExceptionKey (by decide)) _ _)

theorem State.counterReset_moves : Moves s s.counterReset.1 :=
  (s.counters_moves .zero fun _ => by decide).trans
    (State.reportChange_moves _ (alertKey_ne_linkExceptionKey (by decide)) _ _)

theorem State.noteOutcome_moves (x : Exchange) : Moves s (s.noteOutcome x) :=
  .ite (fun _ => .single (.excepted _)) fun _ => .refl

theorem State.noteStray_moves (k : ExceptionKind) (x : Option ExchangeId) (p : Path) (r : CopyResult) :
    Moves s (s.noteStray k x p r) :=
  (s.counters_moves _ Counters.stray_wf).trans (.single (.excepted _))

theorem State.forcePath_moves (p : Path) : Moves s (s.forcePath p) := by
  refine .trans (.single (.linked
    { s.link with receivePath := p, cpd := false, checkRun := 0, nonValid := { one := 0, two := 0 } } ?_ rfl))
      (State.reportChange_moves _ disturbedKey_ne_linkExceptionKey _ _)
  rintro ⟨tag, -, -, -, counters⟩
  exact ⟨tag, Nat.zero_le _, Nat.zero_le _, Nat.zero_le _, counters⟩

theorem State.pathForce_moves (n : Nat) : Moves s (s.pathForce n).1 := by
  unfold State.pathForce
  split
  · exact s.forcePath_moves _
  · exact s.forcePath_moves _
  · exact .refl

/-- The link with the check path's count and the check run at 0 has its counts in range (R46). -/
theorem Link.countsWf_of_checkCleared {l l' : Link} (h : l.CountsWf) (p : Path) (tag : l'.nextTag = l.nextTag)
    (run : l'.checkRun = 0) (counts : l'.nonValid = l.nonValid.set p 0) (counters : l'.counters = l.counters) :
    l'.CountsWf := by
  obtain ⟨tag', -, counts', counters'⟩ := l.countsWf_iff.mp h
  refine l'.countsWf_iff.mpr ⟨tag ▸ tag', run ▸ Nat.zero_le _, ?_, counters ▸ counters'⟩
  rw [counts]
  exact PerPath.get_set_le counts' p (Nat.zero_le _)

theorem State.enterSingle_moves : Moves s s.enterSingle :=
  (Relation.ReflTransGen.trans (.single (.linked _ (fun h =>
      Link.countsWf_of_checkCleared h (otherPath s.link.receivePath) rfl rfl rfl rfl) rfl))
    (State.reportChange_moves _ disturbedKey_ne_linkExceptionKey _ _)).trans
      (State.reportChange_moves _ (downKey_ne_linkExceptionKey _) _ _)

theorem State.enterDual_moves : Moves s s.enterDual :=
  .single (.linked _ (fun h => Link.countsWf_of_checkCleared h (otherPath s.link.receivePath) rfl rfl rfl rfl) rfl)

theorem State.pathModeOrder_moves (m : PathMode) : Moves s (s.pathModeOrder m).1 := by
  unfold State.pathModeOrder
  refine .ite (fun _ => .refl) fun _ => ?_
  cases m
  · exact s.enterDual_moves
  · exact s.enterSingle_moves

theorem State.reportLink_moves : Moves s s.reportLink := by
  refine s.reportAll_moves _ ?_
  intro k hk
  simp only [List.mem_append, List.mem_map] at hk
  rcases hk with (⟨p, -, rfl⟩ | hk) | hk
  · exact downKey_ne_linkExceptionKey p
  · obtain ⟨-, rfl⟩ : s.link.cpd = true ∧ k = disturbedKey := by simpa using hk
    exact disturbedKey_ne_linkExceptionKey
  · obtain ⟨-, rfl⟩ : s.link.counters.full = true ∧ k = countPeriodKey := by simpa using hk
    exact alertKey_ne_linkExceptionKey (kind := .countPeriod) (by decide)

/-! ## The link's phase and requests -/

theorem State.setPhase_moves (p : LinkPhase) : Moves s (s.setPhase p) := .single (.linked _ id rfl)
theorem State.handOver_moves (r : Request) : Moves s (s.handOver r) := .single (.linked _ id rfl)
theorem State.stopDriving_moves : Moves s s.stopDriving := .single (.linked _ id rfl)
theorem State.setReceiving_moves (p : Path) (a : Option Arrival) : Moves s (s.setReceiving p a) :=
  .single (.linked _ id rfl)
theorem State.overtake_moves (f : ReplyFate) : Moves s (s.overtake f) := .single (.linked _ id rfl)
theorem State.startTransmission_moves (r : Request) : Moves s (s.startTransmission r) :=
  .single (.linked _ (fun ⟨_, run, one, two, counters⟩ => ⟨Nat.mod_lt _ (by decide), run, one, two, counters⟩) rfl)
theorem State.startFrame_moves (p : Path) : Moves s (s.startFrame p) :=
  .ite (fun _ => s.setReceiving_moves p _) fun _ => .refl

theorem State.startHeld_moves : Moves s s.startHeld := by
  unfold State.startHeld
  split
  · exact .refl
  · refine .ite (fun _ => .refl) fun _ => ?_
    split
    · exact s.startTransmission_moves _
    · exact s.startTransmission_moves _
    · exact .refl
    · exact .refl
    · exact .refl

theorem State.leaveGuard_moves : Moves s s.leaveGuard := by
  unfold State.leaveGuard
  split
  · refine .ite (fun _ => .refl) fun _ => ?_
    split
    · exact s.startTransmission_moves _
    · exact s.setPhase_moves _
  all_goals exact .refl

/-! ## The choice of a request (R54 to R58) -/

/-- A change of the sequencer alone. -/
theorem State.sequencer_moves (q : Sequencer) : Moves s { s with sequencer := q } :=
  ((touches_sequencer s q).mono (by decide)).clerk

theorem DeliveryRec.handOver_reading (r : DeliveryRec) : r.handOver.reading = r.reading := by
  obtain ⟨demanded, sent, n, confirmed, legend, state, attempts, lanes, since, status⟩ := r
  cases state <;> rfl

theorem State.handOverSgs_moves (g i : Nat) : Moves s (s.handOverSgs g i) :=
  ((s.setDelivery_moves g _ (DeliveryRec.handOver_reading _)).trans (State.dequeue_moves _ g)).trans
    (State.handOver_moves _ _)

theorem State.handOverSgq_moves (i : Nat) : Moves s (s.handOverSgq i) :=
  (s.handOver_moves _).trans (.single (.rotated _))

theorem State.takeCommand_moves (i : Nat) : Moves s (s.takeCommand i) := by
  unfold State.takeCommand
  split
  · exact .ite (fun _ => s.handOverSgs_moves _ i) fun _ => s.handOverSgq_moves i
  · exact s.handOverSgq_moves i

theorem State.takeSlot_moves (i : Nat) (x : Slot) {t : State} (h : s.takeSlot i x = some t) : Moves s t := by
  cases x with
  | station n =>
    obtain ⟨-, ht⟩ := Option.ite_none_right_eq_some.mp h
    cases ht
    exact s.handOver_moves _
  | spare =>
    obtain ⟨-, ht⟩ := Option.ite_none_right_eq_some.mp h
    obtain ⟨n, -, rfl⟩ := Option.map_eq_some_iff.mp ht
    exact s.handOver_moves _
  | centre => cases h; exact s.sequencer_moves _
  | command => cases h; exact s.takeCommand_moves i

theorem State.walkFrom_moves (fuel : Nat) (s : State) : Moves s (State.walkFrom fuel s) := by
  induction fuel generalizing s with
  | zero => exact .refl
  | succ fuel ih =>
    have moved := s.sequencer_moves { s.sequencer with position := s.positionAfter s.sequencer.position }
    unfold State.walkFrom
    dsimp only
    split
    · rename_i t ht
      obtain ⟨x, -, hx⟩ := Option.bind_eq_some_iff.mp ht
      exact moved.trans (State.takeSlot_moves _ _ x hx)
    · exact moved.trans (ih _)

theorem State.walk_moves : Moves s s.walk := State.walkFrom_moves _ s

theorem State.chooseRequest_moves : Moves s s.chooseRequest :=
  .ite (fun _ => (s.sequencer_moves _).trans (State.handOver_moves _ _)) fun _ => s.walk_moves

end Sys2Proof.Machine
end

section
/-! SUPPORT. The modes, the orders, the centre exchange and the commands as runs of moves, and the step: a run of
moves, with at most one visit of a composition pass before it. -/

namespace Sys2Proof.Machine

variable (s : State)

/-! ## Mode Control -/

theorem State.enterStandby_moves : Moves s s.enterStandby := by
  have loaded : Moves s s.loadCycle := by
    refine Touches.clerk fun p hp => ?_
    cases p <;> first | rfl | simp at hp
  rw [s.enterStandby_eq]
  exact Moves.ite (fun _ => loaded) fun _ => loaded.trans (State.walk_moves _)

theorem State.modeRun_moves : Moves s s.modeRun.1 := by
  unfold State.modeRun
  split
  · exact .refl
  · rename_i standby
    exact .single (.started standby)
  · exact .refl
  · exact .refl

theorem State.stopSigning_moves (signing : s.signing = true) : Moves s s.stopSigning :=
  ((Relation.ReflTransGen.single (.stopped signing)).trans (State.overtake_moves _ _)).trans
    (State.enterStandby_moves _)

theorem State.modeStandby_moves : Moves s s.modeStandby.1 := by
  unfold State.modeStandby
  split
  · exact .refl
  · exact .refl
  all_goals
    rename_i mode
    split
    · exact .refl
    · exact s.stopSigning_moves (by simp [State.signing, mode])

theorem State.endRound_moves : Moves s s.endRound := (s.endRound_touches.mono (by decide)).clerk
theorem State.stopCycle_moves : Moves s s.stopCycle := s.sequencer_moves _

theorem State.tableLoad_moves (sect length first : Nat) (records : List (List Byte)) :
    Moves s (s.tableLoad sect length first records).1 := by
  unfold State.tableLoad
  split
  · exact .refl
  · rename_i signing
    split
    · exact .refl
    · rename_i t accepted
      dsimp only
      split
      · rename_i standby
        exact ((((Relation.ReflTransGen.single (.unloaded t standby ⟨_, _, _, _, accepted⟩)).trans
          (State.lowerTableBound_moves _)).trans (State.overtake_moves _ _)).trans (State.endRound_moves _)).trans
            (State.stopCycle_moves _)
      · rename_i standby
        refine .single (.loaded t ?_ ⟨_, _, _, _, accepted⟩)
        cases mode : s.mode <;> simp_all [State.signing]

theorem State.tableCheck_moves (unreset : s.resetAsserted = false) : Moves s s.tableCheck.1 := by
  unfold State.tableCheck
  split
  · exact .refl
  · rename_i unconfigured
    split
    · exact .refl
    · rename_i passed
      exact (Relation.ReflTransGen.single (.measured unreset (Bool.not_eq_true _ ▸ unconfigured) passed)).trans
        (State.enterStandby_moves _)

theorem State.reportAgain_moves : Moves s s.reportAgain := by
  have signs := s.reportLink_moves.trans (State.reportKind_moves _ (kind := .signFault) (by decide) []
    ((List.range Config.maxGantries).filter (fun g => (s.deliveryRec g).signFault)))
  exact Moves.ite (fun _ => signs.tail (.raised centreLostKey (alertKey_ne_linkExceptionKey (by decide)))) fun _ => signs

theorem State.clearReports_moves : Moves s s.clearReports := (s.clearReports_touches.mono (by decide)).clerk

theorem State.restart_moves : Moves s s.restart.1 := by
  have h := (((((Relation.ReflTransGen.single (Move.restarted (s := s))).trans (State.overtake_moves _ .judgeOnly)).trans
    (State.clearReports_moves _)).tail .alertsCleared).trans (State.reportAgain_moves _))
  exact Moves.ite (fun _ => h.trans (State.enterStandby_moves _)) fun _ => h

theorem State.countClose_moves : Moves s s.countClose := by
  unfold State.countClose
  dsimp only
  split
  · rename_i startup
    have h : Moves s { s with modeControl := { s.modeControl with startupCount := s.modeControl.startupCount + 1 } } :=
      .single (.counted _)
    exact Moves.ite (fun _ => h.tail (.activated startup)) fun _ => h
  · exact .refl

theorem State.countOwed_moves (o : Option Nat) : Moves s { s with countOwed := o } :=
  ((touches_countOwed s o).mono (by decide)).clerk

theorem State.payCount_moves : Moves s s.payCount :=
  Moves.ite (fun _ => (s.countOwed_moves none).trans (State.countClose_moves _)) fun _ => .refl
theorem State.countEvaluated_moves : Moves s s.countEvaluated := Moves.ite (fun _ => s.payCount_moves) fun _ => .refl
theorem State.countVisited_moves : Moves s s.countVisited := by
  unfold State.countVisited
  split
  · exact .refl
  · exact Moves.ite (fun _ => .refl) fun _ => Moves.ite (fun _ => s.payCount_moves) fun _ => s.countOwed_moves _
theorem State.startRound_moves : Moves s s.startRound := (s.startRound_touches.mono (by decide)).clerk
theorem State.noteClose_moves (o : CountOrder) : Moves s (s.noteClose o) := by
  unfold State.noteClose
  split
  · cases o
    · exact s.countClose_moves
    · exact s.countOwed_moves _
  · exact .refl
theorem State.closeInterval_moves (o : CountOrder) : Moves s (s.closeInterval o) :=
  ((((s.sequencer_moves _).trans (State.payCount_moves _)).trans (State.closeReduction_moves _)).trans
    (State.noteClose_moves _ o)).trans (State.startRound_moves _)

/-! ## Orders (R166) -/

theorem State.laneHealthClear_moves (n l : Nat) : Moves s (s.laneHealthClear n l).1 := by
  unfold State.laneHealthClear
  repeat' split
  all_goals first | exact .refl | exact s.clearLane_moves n l

theorem State.inject_moves (n l : Nat) (v : LaneValues) (k : Nat) : Moves s (s.inject n l v k).1 := by
  unfold State.inject
  repeat' split
  all_goals first | exact .refl | exact s.startRun_moves n l v _

variable {s}

theorem State.carryOut_moves (unreset : s.resetAsserted = false) (o : Order) : Moves s (s.carryOut o).1 := by
  cases o with
  | modeRun => exact s.modeRun_moves
  | modeStandby => exact s.modeStandby_moves
  | tableLoad a b c r => exact s.tableLoad_moves a b c r
  | tableCheck => exact s.tableCheck_moves unreset
  | restart => exact s.restart_moves
  | laneClose => exact s.closeRoad_moves _ _ _ _
  | carriagewayClose => exact s.closeRoad_moves _ _ _ _
  | shoulderOpen => exact s.shoulderOpen_moves _ _ _ _
  | orderClear => exact s.orderClear_moves _
  | limitSet => exact s.limitSet_moves _ _ _ _ _
  | laneHealthClear => exact s.laneHealthClear_moves _ _
  | inject => exact s.inject_moves _ _ _ _
  | pathForce => exact s.pathForce_moves _
  | pathMode => exact s.pathModeOrder_moves _
  | counterReset => exact s.counterReset_moves
  | query => exact .refl
  | alertAck scope => exact .single (.acknowledged scope)
  | alertMask kind m => exact .single (.masked kind m)

theorem State.takeOrder_moves (unreset : s.resetAsserted = false) (m : OrderMessage) : Moves s (s.takeOrder m) := by
  have h : Moves s (s.answerOrder m).2.1 := by
    unfold State.answerOrder
    split
    · exact State.carryOut_moves unreset _
    · exact .refl
    · exact .refl
  exact h.trans (State.offerReport_moves _ _)

/-- The reset input is released throughout the orders of a reply. -/
theorem Touches.unreset {s t : State} (h : Touches orderParts s t) (unreset : s.resetAsserted = false) :
    t.resetAsserted = false := (h .resetAsserted (by decide)).trans unreset

theorem takeOrder_foldl_moves (ms : List OrderMessage) {s : State} (unreset : s.resetAsserted = false) :
    Moves s (ms.foldl (fun (t : State) m => t.takeOrder m) s) := by
  induction ms generalizing s with
  | nil => exact .refl
  | cons m ms ih => exact (State.takeOrder_moves unreset m).trans (ih ((s.takeOrder_touches m).unreset unreset))

theorem State.takeOrders_moves (unreset : s.resetAsserted = false) (credit : Nat) (payload : List Byte) :
    Moves s (s.takeOrders credit payload) := by
  have h := takeOrder_foldl_moves (readMessages (min credit (statedOrders payload)) (payload.drop 1)) unreset
  exact Moves.ite (fun _ => h.trans (State.overrun_moves _)) fun _ => h

/-! ## Centre Exchange -/

theorem State.centre_moves (s : State) (c : Centre) : Moves s { s with centre := c } :=
  ((touches_centre s c).mono (by decide)).clerk

theorem State.settleFailed_moves (s : State) : Moves s s.settleFailed := by
  unfold State.settleFailed
  refine .trans ?_ (State.centre_moves _ _)
  refine Moves.ite (fun _ => ?_) fun _ => s.centre_moves _
  exact (s.centre_moves _).tail (.raised centreLostKey (alertKey_ne_linkExceptionKey (by decide)))

theorem State.relink_moves (s : State) : Moves s s.relink :=
  Moves.ite (fun _ => (s.centre_moves _).tail (.lowered _)) fun _ => s.centre_moves _

theorem State.settleReceived_moves (unreset : s.resetAsserted = false) (payload : List Byte) :
    Moves s (s.settleReceived payload) := by
  have linked : Moves s { s.relink with
      alerts := s.relink.alerts.deliver (s.centre.carried.getD .nothing).notices } := s.relink_moves.tail (.delivered _)
  have cleared := (linked.trans ((State.departCarried_touches _ (s.centre.carried.getD .nothing)).mono
    (by decide)).clerk).trans ((State.moveCursor_touches _ (s.centre.carried.getD .nothing)).mono (by decide)).clerk
  refine (cleared.trans (State.takeOrders_moves ?_ _ payload)).trans (State.centre_moves _ _)
  exact (((((s.relink_touches.mono (by decide)).trans ((touches_alerts _ _).mono (by decide))).trans
    ((State.departCarried_touches _ _).mono (by decide))).trans ((State.moveCursor_touches _ _).mono
      (by decide))) : Touches orderParts s _).unreset unreset

theorem State.settleCentre_moves (unreset : s.resetAsserted = false) : Moves s s.settleCentre := by
  unfold State.settleCentre
  split
  · exact .refl
  · exact s.settleFailed_moves
  · exact State.settleReceived_moves unreset _

theorem State.buildCentre_moves (s : State) (i : Option Nat) : Moves s (s.buildCentre i) := by
  refine .trans (Touches.clerk (t := { s with
    centre := { s.centre with carried := some (s.carriedBy s.fill) },
    sequencer := { s.sequencer with building := none } }) fun p hp => ?_) (State.handOver_moves _ _)
  cases p <;> first | rfl | simp at hp

theorem State.completeBuild_moves (unreset : s.resetAsserted = false) : Moves s s.completeBuild := by
  unfold State.completeBuild
  split
  · exact .refl
  · exact (State.settleCentre_moves unreset).trans (State.buildCentre_moves _ _)

theorem State.chooseNext_moves (unreset : s.resetAsserted = false) : Moves s s.chooseNext :=
  s.chooseRequest_moves.trans (State.completeBuild_moves
    ((s.chooseRequest_touches.mono (by decide) : Touches orderParts s _).unreset unreset))

theorem State.exchangeEnded_moves (unreset : s.resetAsserted = false) (b : Bool) : Moves s (s.exchangeEnded b) :=
  Moves.ite (fun _ => Moves.ite (fun _ => s.sequencer_moves _) fun _ => State.chooseNext_moves unreset)
    fun _ => s.sequencer_moves _

theorem State.payChoice_moves (unreset : s.resetAsserted = false) : Moves s s.payChoice :=
  Moves.ite (fun _ => (s.sequencer_moves _).trans (State.chooseNext_moves (s := { s with sequencer := _ }) unreset)) fun _ => .refl

theorem State.settleNow_moves (unreset : s.resetAsserted = false) : Moves s s.settleNow := by
  have settled := s.settleCentre_touches.unreset unreset
  exact ((State.settleCentre_moves unreset).trans (State.completeBuild_moves settled)).trans
    (State.payChoice_moves ((State.completeBuild_touches _).unreset settled))

/-! ## The exchange -/

theorem State.openAtMark_moves (s : State) : Moves s s.openAtMark :=
  s.openInterval_moves.trans (State.sequencer_moves _ _)

theorem State.endMark_moves (unreset : s.resetAsserted = false) : Moves s s.endMark := by
  have settled := s.settleCentre_touches.unreset unreset
  have idle := (State.settleCentre_moves unreset).trans (State.setPhase_moves _ .idle)
  unfold State.endMark
  dsimp only
  split
  · refine .trans (idle.trans (State.openAtMark_moves _)) (State.exchangeEnded_moves ?_ false)
    exact settled
  · refine .trans idle (State.exchangeEnded_moves ?_ false)
    exact settled

theorem State.endTransmission_moves (unreset : s.resetAsserted = false) (x : Exchange) :
    Moves s (s.endTransmission x) :=
  Moves.ite (fun _ => s.stopDriving_moves.trans (State.endMark_moves unreset))
    fun _ => s.stopDriving_moves.trans (State.setPhase_moves _ _)

theorem State.handOutcome_moves (s : State) (x : Exchange) : Moves s (s.handOutcome x) := by
  unfold State.handOutcome
  split
  · exact .refl
  · exact s.judgeIvr_moves _ _
  · exact s.judgeSign_moves _ _
  · exact s.judgeSign_moves _ _
  · exact s.centre_moves _

theorem State.concludeExchange_moves (unreset : s.resetAsserted = false) (o : ChoiceOrder) (x : Exchange) :
    Moves s (s.concludeExchange o x) := by
  have h := (((((s.settlePaths_touches x).mono (by decide)).trans ((State.settleCounters_touches _ x).mono
    (by decide))).trans ((State.noteOutcome_touches _ x).mono (by decide))).trans
      ((State.setPhase_touches _ ((((s.settlePaths x).settleCounters x).noteOutcome x).phaseAfter x)).mono
        (by decide))).trans ((State.handOutcome_touches _ x).mono (by decide) : Touches orderParts _ _)
  exact (((((s.settlePaths_moves x).trans (State.settleCounters_moves _ x)).trans (State.noteOutcome_moves _ x)).trans
    (State.setPhase_moves _ _)).trans (State.handOutcome_moves _ x)).trans
      (State.exchangeEnded_moves (h.unreset unreset) _)

theorem State.endExchange_moves (unreset : s.resetAsserted = false) (o : ChoiceOrder) : Moves s (s.endExchange o) := by
  unfold State.endExchange
  dsimp only
  split
  · exact (State.settleCentre_moves unreset).trans
      (State.concludeExchange_moves (s.settleCentre_touches.unreset unreset) o _)
  all_goals exact State.settleCentre_moves unreset

theorem State.endLate_moves (s : State) (p : Path) (e : Bool) (b : List Byte) : Moves s (s.endLate p e b) := by
  unfold State.endLate
  dsimp only
  split
  · exact (s.noteStray_moves _ _ _ _).trans (State.setPhase_moves _ _)
  all_goals exact s.noteStray_moves _ _ _ _

theorem State.endBelonging_moves (unreset : s.resetAsserted = false) (x : Exchange) (p : Path) (e : Bool)
    (b : List Byte) (o : ChoiceOrder) : Moves s (s.endBelonging x p e b o) := by
  unfold State.endBelonging
  dsimp only
  have dup : Moves s (if x.duplicates p (classify x.ident e b) then s.noteStray .duplicate (some x.ident) p .valid
      else s) := Moves.ite (fun _ => s.noteStray_moves _ _ _ _) fun _ => .refl
  have same : (if x.duplicates p (classify x.ident e b) then s.noteStray .duplicate (some x.ident) p .valid
      else s).resetAsserted = false := by
    split
    · exact ((s.noteStray_touches _ _ _ _).mono (by decide) : Touches orderParts s _).unreset unreset
    · exact unreset
  refine Moves.ite (fun _ => .trans (dup.trans (State.setPhase_moves _ _)) (State.endExchange_moves ?_ o))
    fun _ => dup.trans (State.setPhase_moves _ _)
  exact same

theorem State.endOutlived_moves (s : State) (p : Path) (e : Bool) (b : List Byte) : Moves s (s.endOutlived p e b) :=
  Moves.ite (fun _ => s.noteStray_moves _ _ _ _) fun _ => .refl

theorem State.endFrame_moves (unreset : s.resetAsserted = false) (p : Path) (e : Bool) (b : List Byte)
    (o : ChoiceOrder) : Moves s (s.endFrame p e b o) := by
  unfold State.endFrame
  split
  · exact .refl
  · have h := s.setReceiving_moves p none
    dsimp only
    split
    · exact h
    · split
      · exact h.trans (State.endLate_moves _ p e b)
      · exact h.trans (State.endBelonging_moves (s := State.setReceiving _ _ _) unreset _ p e b o)
      · exact h.trans (State.endOutlived_moves _ p e b)

theorem State.expireReply_moves (unreset : s.resetAsserted = false) (o : ChoiceOrder) :
    Moves s (s.expireReply o) := by
  unfold State.expireReply
  split
  · refine Moves.ite (fun _ => .refl) fun _ => Moves.ite (fun _ => s.setPhase_moves _) fun _ => ?_
    refine .trans (s.setPhase_moves _) (State.endExchange_moves ?_ o)
    exact unreset
  all_goals exact .refl

theorem State.expireIdleWait_moves (unreset : s.resetAsserted = false) : Moves s s.expireIdleWait :=
  Moves.ite (fun _ => (s.sequencer_moves _).trans (State.completeBuild_moves (s := { s with sequencer := _ }) unreset)) fun _ => .refl

theorem State.expireInterval_moves (s : State) (o : CountOrder) : Moves s (s.expireInterval o) := by
  unfold State.expireInterval
  refine Moves.ite (fun _ => .trans ?_ (State.sequencer_moves _ _)) fun _ => .refl
  exact Moves.ite (fun _ => (s.sequencer_moves _).trans (State.closeInterval_moves _ o)) fun _ => s.sequencer_moves _

theorem State.takeEvaluation_moves (s : State) : Moves s s.takeEvaluation := by
  have taken : Moves s { s with evaluationsAsked := s.evaluationsAsked - 1 } :=
    ((touches_evaluationsAsked s _).mono (by decide)).clerk
  unfold State.takeEvaluation
  refine Moves.ite (fun _ => .refl) fun _ => .trans ?_ (State.countEvaluated_moves _)
  exact Moves.ite (fun _ => taken.trans (State.evaluateBands_moves _)) fun _ => taken

theorem DeliveryRec.tick_reading (r : DeliveryRec) : r.tick.reading = r.reading := rfl

theorem State.tick_moves (s : State) : Moves s s.tick := by
  unfold State.tick
  refine Moves.ite (fun _ => .refl) fun _ => ?_
  refine ((((s.sequencer_moves s.sequencer.tick).tail (.linked { s.link with phase := s.link.tickPhase } id rfl)).tail
    (.controlled (s.control.map GantryControl.tick) ?_)).tail .holdsTicked).tail
      (.recorded (s.composer.delivery.map DeliveryRec.tick) ?_)
  · rw [List.map_map]; rfl
  · rw [List.map_map]; rfl

/-! ## The step -/

/-- A visit with its reports of CLOSURE_UNPROTECTED (R125, R141). -/
theorem State.visit_eq (g : Nat) (s : State) :
    ∃ falls rises : List Nat, s.visit g = (s.composed g).reportAll (falls.map (alertKey .closureUnprotected ·))
      (rises.map (alertKey .closureUnprotected ·)) := by
  have settled : ∃ falls rises : List Nat, (s.settleSites g).alerts =
      s.alerts.reported (falls.map (alertKey .closureUnprotected ·)) (rises.map (alertKey .closureUnprotected ·)) := by
    unfold State.settleSites
    dsimp only
    rw [State.reportAll_alerts]
    exact ⟨_, _, rfl⟩
  obtain ⟨falls, rises, h⟩ := settled
  have after : Touches [.control, .composer] (s.settleSites g) (s.visit g) :=
    ((((State.settleDemand_touches _ g _).mono (by decide)).trans ((State.setDelivery_touches _ g _).mono
      (by decide))).trans ((State.placeVisited_touches _ g).mono (by decide))).trans
        ((touches_composer _ _).mono (by decide))
  refine ⟨falls, rises, ?_⟩
  rw [State.reportAll_alerts]
  unfold State.composed
  dsimp only
  rw [← h, ← (after .alerts (by decide) : (s.visit g).alerts = _)]

/-- The commands but COMPOSITION_PASS_VISIT are runs of moves. -/
theorem exec_moves {c : Instr} {t : State} (other : c ≠ .compositionPassVisit) (h : exec c s = .next t) : Moves s t := by
  have event : ∀ {f : State → State}, (s.resetAsserted = false → Moves s (f s)) → s.unlessReset f = .next t →
      Moves s t := by
    intro f k h
    obtain ⟨-, rfl⟩ | ⟨unreset, rfl⟩ := State.unlessReset_cases h
    · exact .refl
    · exact k unreset
  cases c with
  | hardwareReset => cases h; exact .single .wasReset
  | resetRelease rate trunk high =>
    cases h
    exact Moves.ite (fun asserted => .single (.released rate trunk high asserted)) fun _ => .refl
  | transmissionStart => exact event (fun _ => s.startHeld_moves) h
  | endOfTransmission =>
    change execEndOfTransmission s = _ at h
    unfold execEndOfTransmission at h
    refine event (fun unreset => ?_) h
    split
    · exact State.endTransmission_moves unreset _
    all_goals exact .refl
  | frameEnd p e b o => exact event (fun unreset => State.endFrame_moves unreset p e b o) h
  | replyTimeout o => exact event (fun unreset => State.expireReply_moves unreset o) h
  | guardGapElapsed => exact event (fun _ => s.leaveGuard_moves) h
  | builtInIdleWaitExpiry => exact event State.expireIdleWait_moves h
  | intervalTimerExpiry o => exact event (fun _ => s.expireInterval_moves o) h
  | evaluationTimerExpiry o =>
    exact event (fun _ => Moves.ite (fun _ => s.closeInterval_moves o) fun _ => .refl) h
  | bandEvaluation => exact event (fun _ => s.takeEvaluation_moves) h
  | waitingResultOffer => exact event (fun _ => (s.offerWaiting_touches.mono (by decide)).clerk) h
  | centreExchangeReceived =>
    change execCentreExchangeReceived s = _ at h
    unfold execCentreExchangeReceived at h
    refine event (fun unreset => ?_) h
    split
    · exact State.settleNow_moves unreset
    all_goals exact .refl
  | centreExchangeFailed =>
    change execCentreExchangeFailed s = _ at h
    unfold execCentreExchangeFailed at h
    refine event (fun unreset => ?_) h
    split
    · exact State.settleNow_moves unreset
    all_goals exact .refl
  | compositionPassVisit => exact absurd rfl other
  | dwellTimerExpiry g => exact event (fun _ => Moves.ite (fun _ => s.expireDwell_moves g) fun _ => .refl) h
  | mergeHoldExpiry n => exact event (fun _ => s.expireHold_moves n) h
  | refreshTimeReached g => exact event (fun _ => Moves.ite (fun _ => s.reachRefresh_moves g) fun _ => .refl) h
  | frameStart p => exact event (fun _ => s.startFrame_moves p) h

/-- COMPOSITION_PASS_VISIT does nothing, or is the visit of the pass's next gantry and then a run of moves. -/
theorem exec_visit {t : State} (h : exec .compositionPassVisit s = .next t) :
    t = s ∨ ∃ g, s.resetAsserted = false ∧ s.composer.pass = some g ∧ Moves (s.composed g) t := by
  change execCompositionPassVisit s = _ at h
  unfold execCompositionPassVisit at h
  obtain ⟨-, rfl⟩ | ⟨unreset, rfl⟩ := State.unlessReset_cases h
  · exact .inl rfl
  · split
    · rename_i g pass
      obtain ⟨falls, rises, e⟩ := s.visit_eq g
      refine .inr ⟨g, unreset, pass, ?_⟩
      rw [e]
      exact (State.reportKind_moves _ (by decide) _ _).trans (State.countVisited_moves _)
    · exact .inl rfl

/-- Every step is a run of moves, or the visit of the running pass's next gantry, on the state with the rest of the
queue, and then a run of moves. -/
theorem step_moves {t : State} (h : step s = .next t) : Moves s t ∨ ∃ rest g,
    s.composer.pass = some g ∧ Moves (({ s with pending := rest } : State).composed g) t := by
  unfold step at h
  split at h
  · cases h
    exact .inl s.tick_moves
  · rename_i c rest _
    have queue : Moves s { s with pending := rest } := Touches.clerk (by
      intro p hp
      cases p <;> first | rfl | simp at hp)
    by_cases visit : c = .compositionPassVisit
    · subst visit
      obtain rfl | ⟨g, -, pass, m⟩ := exec_visit h
      · exact .inl queue
      · exact .inr ⟨rest, g, pass, m⟩
    · exact .inl (queue.trans (exec_moves visit h))

/-- A law that every move keeps, and the visit of a running pass keeps, holds after every step. -/
theorem step_keeps {P : State → Prop} (move : ∀ s t, Move s t → P s → P t)
    (visit : ∀ s g, s.composer.pass = some g → P s → P (s.composed g)) {s t : State} (h : step s = .next t)
    (k : P s) : P t := by
  obtain m | ⟨rest, g, pass, m⟩ := step_moves h
  · exact m.keep move k
  · refine m.keep move (visit { s with pending := rest } g pass ?_)
    exact move s _ (.clerk rest _ _ _ _ _) k

end Sys2Proof.Machine
end

section
/-! SUPPORT. The laws of the tables, the modes and the counters: that every move keeps them (R1, R3, R12, R17, R30,
R40, R48), and what a pass request leaves alone. -/

namespace Sys2Proof.Machine

/-! ## Pass requests (R126, R140) -/

/-- The pass state replaced. -/
def State.withPass (p : Option Nat) (s : State) : State := { s with composer := { s.composer with pass := p } }

theorem State.visited_iff (s : State) (g : Nat) :
    s.visited g = true ↔ ∀ n, s.composer.pass = some n → n < g := by
  unfold State.visited
  cases s.composer.pass <;> simp

/-- A pass request changes the pass state alone; what it leaves visited was visited before, and lies downstream of
the gantry asked for. -/
theorem State.requestPass_spec (s : State) (h : Nat) : ∃ p, s.requestPass h = s.withPass p ∧
    (s.signing = false → p = s.composer.pass) ∧
    ∀ g, (s.withPass p).visited g = true → s.visited g = true ∧ (s.signing = true → h < g) := by
  obtain ⟨signing, e⟩ | ⟨signing, n, e, le, -, covers⟩ := s.requestPass_cases h
  · exact ⟨s.composer.pass, e, fun _ => rfl, fun g hg => ⟨hg, by simp [signing]⟩⟩
  · refine ⟨some n, e, by simp [signing], fun g hg => ?_⟩
    have after : n < g := (State.visited_iff _ g).mp hg n rfl
    exact ⟨(s.visited_iff g).mpr fun m hm => lt_of_le_of_lt (covers m hm) after, fun _ => lt_of_le_of_lt le after⟩

/-- The pass requests of a change at a gantry cover the sites of the road closures there and up to two gantries
downstream (R126). -/
theorem State.requestSites_spec (s : State) (g : Nat) : ∃ p, s.requestSites g = s.withPass p ∧
    (s.signing = false → p = s.composer.pass) ∧
    ∀ x, (s.withPass p).visited x = true → s.visited x = true ∧ (s.signing = true →
      ∀ c ∈ s.closures.roads, (c.site = g ∨ c.site = g + 1 ∨ c.site = g + 2) → c.site < x) := by
  suffices h : ∀ (cs : List RoadClosure) (p : Option Nat), ∃ q,
      cs.foldl (fun (t : State) c => t.requestPass c.site) (s.withPass p) = s.withPass q ∧
      (s.signing = false → q = p) ∧
      ∀ x, (s.withPass q).visited x = true → (s.withPass p).visited x = true ∧
        (s.signing = true → ∀ c ∈ cs, c.site < x) by
    obtain ⟨q, e, quiet, covers⟩ := h (s.closures.roads.filter
      (fun c => decide (c.site = g ∨ c.site = g + 1 ∨ c.site = g + 2))) s.composer.pass
    refine ⟨q, e, quiet, fun x hx => ⟨(covers x hx).1, fun signing c hc site => ?_⟩⟩
    exact (covers x hx).2 signing c (List.mem_filter.mpr ⟨hc, decide_eq_true site⟩)
  intro cs
  induction cs with
  | nil => exact fun p => ⟨p, rfl, fun _ => rfl, fun x hx => ⟨hx, by simp⟩⟩
  | cons c cs ih =>
    intro p
    obtain ⟨p', e', quiet', covers'⟩ := (s.withPass p).requestPass_spec c.site
    obtain ⟨q, e, quiet, covers⟩ := ih p'
    refine ⟨q, ?_, fun h => (quiet h).trans (quiet' h), fun x hx => ?_⟩
    · rw [List.foldl_cons, e']
      exact e
    · obtain ⟨before, sites⟩ := covers x hx
      obtain ⟨before', site⟩ := covers' x before
      refine ⟨before', fun signing d hd => ?_⟩
      rcases List.mem_cons.mp hd with rfl | hd
      · exact site signing
      · exact sites signing d hd

/-- A law that does not read the pass state holds after a pass request. -/
theorem State.requestPass_keeps {P : State → Prop} {s : State} (h : Nat) (k : ∀ p, P (s.withPass p)) :
    P (s.requestPass h) := by
  obtain ⟨p, e, -⟩ := s.requestPass_spec h
  rw [e]
  exact k p

/-- A law that reads neither the pass state nor the Gantry Delivery Records holds after a judgement. -/
theorem State.judged_keeps {P : State → Prop} {s : State} (g : Nat) (r : DeliveryRec)
    (k : ∀ p, P ((s.setDelivery g r).withPass p)) : P (((s.setDelivery g r).requestSites g).requestPass g) := by
  obtain ⟨p, e, -⟩ := (s.setDelivery g r).requestSites_spec g
  rw [e]
  exact State.requestPass_keeps g fun q => k q

/-! ## What a visit changes (R141) -/

/-- The governor of a gantry reads the tables, and the delivery states downstream of it, alone (R114). -/
theorem State.governor_congr {s t : State} {g : Nat} (tables : t.tables = s.tables)
    (out : ∀ h, g < h → (t.deliveryRec h).state.out = (s.deliveryRec h).state.out) : t.governor g = s.governor g := by
  have count : t.gantryCount = s.gantryCount := congrArg (fun x => x.gantries.length) tables
  suffices h : ∀ fuel x, g ≤ x → t.governorFrom fuel x = s.governorFrom fuel x by
    unfold State.governor
    rw [count, h _ _ le_rfl]
  intro fuel
  induction fuel with
  | zero => exact fun _ _ => rfl
  | succ fuel ih =>
    intro x le
    unfold State.governorFrom
    rw [tables, count, out _ (Nat.lt_succ_of_le le), ih _ (Nat.le_succ_of_le le)]

/-- The register after a visit to a gantry: the road closures sited there settled (R125). -/
def State.settledRegister (g : Nat) (s : State) : List Closure :=
  s.closures.register.map (fun c => match c.body with
    | .road r => if r.site = g then { c with body := .road (s.settleRoad r) } else c
    | .shoulder _ => c)

/-- The state in which a visit composes: the register settled and the demanded limit decided. -/
def State.decided (g : Nat) (s : State) : State :=
  (s.setRegister (s.settledRegister g)).settleDemand g ((s.setRegister (s.settledRegister g)).closureCaps g)

/-- What a visit demands of its gantry (R142, R143). -/
def State.composition (g : Nat) (s : State) : Signing :=
  { aspects := (s.decided g).composeLanes g, legend := (s.decided g).composeLegend g }

theorem State.placeVisited_spec (g : Nat) (s : State) : ∃ q, s.placeVisited g =
    { s with composer := { s.composer with queue := q } } ∧
      (OnePerGantry s.composer.queue → OnePerGantry q) := by
  unfold State.placeVisited
  dsimp only
  split <;> split
  · exact ⟨_, rfl, fun h => State.place_once _ g _ (State.place_once _ g _ h)⟩
  · exact ⟨_, rfl, s.place_once g _⟩
  · exact ⟨_, rfl, s.place_once g _⟩
  · exact ⟨_, rfl, id⟩

theorem State.settleDemand_setAlerts (g : Nat) (caps : List Nat) (u : AlertUnit) (s : State) :
    ({ s with alerts := u } : State).settleDemand g caps = { s.settleDemand g caps with alerts := u } := by
  have governor : ({ s with alerts := u } : State).governor g = s.governor g :=
    State.governor_congr (s := s) (t := { s with alerts := u }) rfl fun _ _ => rfl
  have bound : ({ s with alerts := u } : State).cascadeBound g = s.cascadeBound g := by
    unfold State.cascadeBound
    rw [governor]
    rfl
  have candidate : ({ s with alerts := u } : State).candidate g caps = s.candidate g caps := by
    unfold State.candidate
    rw [bound]
    rfl
  unfold State.settleDemand
  rw [candidate]
  rfl

/-- A visit settles the closures sited at its gantry, decides its demanded limit, demands its composition, changes the
Sign Command Queue and moves the pass on. -/
theorem State.composed_spec (g : Nat) (s : State) : ∃ q, s.composed g = { s.decided g with
      composer := { s.composer with
        pass := if g = 0 then none else some (g - 1),
        delivery := s.composer.delivery.set g { s.deliveryRec g with demanded := some (s.composition g) },
        queue := q } } ∧
    (OnePerGantry s.composer.queue → OnePerGantry q) := by
  have settled : ∃ u, (s.settleSites g).settleDemand g ((s.settleSites g).closureCaps g) =
      { s.decided g with alerts := u } := by
    unfold State.settleSites
    dsimp only
    rw [State.reportAll_alerts]
    exact ⟨_, State.settleDemand_setAlerts g _ _ _⟩
  obtain ⟨u, e⟩ := settled
  obtain ⟨q, placed, once⟩ := State.placeVisited_spec g
    (State.setDelivery g { State.deliveryRec { s.decided g with alerts := u } g with
      demanded := some { aspects := State.composeLanes g { s.decided g with alerts := u },
                         legend := State.composeLegend g { s.decided g with alerts := u } } }
      { s.decided g with alerts := u })
  refine ⟨q, ?_, once⟩
  unfold State.composed State.visit
  dsimp only
  rw [e, placed]
  rfl

end Sys2Proof.Machine
end

section
/-! SUPPORT. The laws of the tables, the modes, the alerts, the sizes and the counters: the state after a hardware
reset meets them, and every step keeps them (R1, R3, R12, R17, R30, R40, R48, R52, R172 to R177). -/

namespace Sys2Proof.Machine

/-! ## The state after a hardware reset -/

theorem reset_reportsWf : State.reset.ReportsWf := by decide
theorem reset_creditWf : State.reset.CreditWf := fun _ h => nomatch h
theorem reset_alertsWf : State.reset.alerts.Wf := ⟨by decide, by decide, by decide, by decide, by decide⟩
theorem reset_captureWf : State.reset.CaptureWf := by decide
theorem reset_flagWf : State.reset.FlagWf := by decide
theorem reset_checkedWf : State.reset.CheckedWf := ⟨fun _ => by decide, fun h => absurd h (by decide)⟩
theorem reset_shapeWf : State.reset.ShapeWf := by decide
theorem reset_tablesWf : State.reset.tables.Wf := by
  refine ⟨?_, ?_, ?_, ?_, ?_⟩ <;> exact ⟨by decide, fun o h => absurd h List.not_mem_nil⟩
theorem reset_quietWf : State.reset.QuietWf := by decide
theorem reset_signQueueWf : State.reset.SignQueueWf := by decide
theorem reset_ordersWf : State.reset.OrdersWf := by decide
theorem reset_placesWf : State.reset.PlacesWf := ⟨fun _ => ⟨rfl, rfl⟩, nofun, nofun, nofun⟩
theorem reset_overlayWf : State.reset.OverlayWf := by decide
theorem reset_shoulderWf : State.reset.ShoulderWf := ⟨nofun, nofun, by decide⟩
theorem reset_demandWf : State.reset.DemandWf := by
  intro g hg
  decide +revert
theorem reset_signing : State.reset.signing = false := rfl
theorem reset_cascadeWf : State.reset.CascadeWf := fun h => absurd h (by decide)
theorem reset_shoulderDemandWf : State.reset.ShoulderDemandWf := fun h => absurd h (by decide)
theorem reset_protectionWf : State.reset.ProtectionWf := fun h => absurd h (by decide)
theorem reset_countsWf : State.reset.link.CountsWf := by decide
theorem reset_oneRequestWf : State.reset.OneRequestWf := by decide

/-- Settles O4: the laws of the reset state one by one; those of the signs ask nothing outside STARTUP and ACTIVE. -/
theorem resetMeetsEveryLaw : Obligations.ResetMeetsEveryLaw :=
  ⟨rfl, reset_reportsWf, reset_creditWf, reset_alertsWf, reset_captureWf, reset_flagWf, reset_checkedWf, reset_shapeWf,
    reset_tablesWf, reset_quietWf, reset_signQueueWf, reset_ordersWf, reset_placesWf, reset_overlayWf,
    reset_shoulderWf, reset_demandWf, reset_cascadeWf, reset_shoulderDemandWf, reset_protectionWf, reset_countsWf,
    reset_oneRequestWf⟩

/-! ## The modes and TABLE CHECK (R1, R12, R17) -/

theorem State.configured_of_mode {s : State} (h : s.mode ≠ .unconfigured) : s.configured = true :=
  s.configured_iff.mpr h

theorem State.not_configured_of_mode {s : State} (h : s.mode = .unconfigured) : s.configured = false := by
  simp [State.configured, h]

theorem State.signing_iff (s : State) : s.signing = true ↔ s.mode = .startup ∨ s.mode = .active := by
  simp [State.signing]

theorem State.configured_of_signing {s : State} (h : s.signing = true) : s.configured = true := by
  rcases s.signing_iff.mp h with h | h <;> exact State.configured_of_mode (by simp [h])

/-- The laws of O47: the table-checked flag, and the tables checked outside UNCONFIGURED. -/
abbrev State.TablesChecked (s : State) : Prop := s.FlagWf ∧ s.CheckedWf

/-- In UNCONFIGURED with the flag clear the laws of O47 hold. -/
theorem State.TablesChecked.of_unconfigured {s : State} (mode : s.mode = .unconfigured)
    (flag : s.modeControl.tableChecked = false) : s.TablesChecked := by
  have now := State.not_configured_of_mode mode
  exact ⟨flag.trans now.symm, fun _ => now, fun h => absurd h (by simp [now])⟩

/-- A change of the mode among those outside UNCONFIGURED keeps the laws of O47. -/
theorem State.TablesChecked.of_mode {s t : State} (h : s.TablesChecked) (was : s.configured = true)
    (flag : t.modeControl.tableChecked = s.modeControl.tableChecked) (now : t.mode ≠ .unconfigured)
    (reset : t.resetAsserted = s.resetAsserted) (tables : t.tables = s.tables) (straps : t.straps = s.straps) :
    t.TablesChecked := by
  obtain ⟨flagged, unreset, checked⟩ := h
  have configured := State.configured_of_mode now
  refine ⟨by rw [State.FlagWf, flag, flagged, was, configured], fun r => ?_, fun _ => ?_⟩
  · exact absurd (unreset (reset ▸ r)) (by simp [was])
  · rw [tables, straps]
    exact checked was

theorem Move.keeps_tablesChecked {s t : State} (m : Move s t) (h : s.TablesChecked) : t.TablesChecked := by
  obtain ⟨flag, unreset, checked⟩ := h
  have k : s.TablesChecked := ⟨flag, unreset, checked⟩
  cases m with
  | wasReset => exact ⟨reset_flagWf, reset_checkedWf⟩
  | released rate trunk high asserted =>
    refine ⟨flag, fun h => absurd h (by simp [State.release]), fun h => ?_⟩
    exact absurd (unreset asserted) (by rw [show s.configured = true from h]; decide)
  | started standby =>
    exact State.requestPass_keeps _ fun _ =>
      k.of_mode (State.configured_of_mode (by simp [standby])) rfl nofun rfl rfl rfl
  | activated startup =>
    exact State.requestPass_keeps _ fun _ =>
      k.of_mode (State.configured_of_mode (by simp [startup])) rfl nofun rfl rfl rfl
  | stopped signing => exact k.of_mode (State.configured_of_signing signing) rfl nofun rfl rfl rfl
  | loaded t unconfigured accepted => exact .of_unconfigured unconfigured rfl
  | unloaded t standby accepted => exact .of_unconfigured rfl rfl
  | measured released unconfigured passed =>
    exact ⟨rfl, fun h => absurd (released.symm.trans h) (by decide), fun _ => passed⟩
  | restarted =>
    by_cases c : s.modeControl.tableChecked = true
    · have now : (if s.modeControl.tableChecked then Mode.standby else .unconfigured) ≠ .unconfigured := by simp [c]
      exact k.of_mode (flag ▸ c) rfl now rfl rfl rfl
    · exact .of_unconfigured (if_neg c) (Bool.eq_false_iff.mpr c)
  | passRequested | roadAccepted | closingStarted | closingMoved | closingEnded =>
    exact State.requestPass_keeps _ fun _ => k
  | judged g r => exact State.judged_keeps g r fun _ => k
  | _ => exact k

/-- Settles O47: each move keeps the flag and the checked tables, and a visit does not touch them. -/
theorem checkedTablesLaw : Obligations.CheckedTablesLaw := by
  unfold Obligations.CheckedTablesLaw
  intro s t flag checked h
  refine step_keeps (P := State.TablesChecked) (fun _ _ m => m.keeps_tablesChecked) (fun s g _ k => ?_) h
    ⟨flag, checked⟩
  obtain ⟨q, e, -⟩ := s.composed_spec g
  rw [e]
  exact k

/-! ## Link counts (R30, R40, R48) -/

theorem Move.keeps_counts {s t : State} (m : Move s t) (h : s.link.CountsWf) : t.link.CountsWf := by
  cases m with
  | linked l counts frozen => exact counts h
  | wasReset => exact reset_countsWf
  | started | activated | passRequested | roadAccepted | closingStarted | closingMoved | closingEnded =>
    exact State.requestPass_keeps (P := fun t => t.link.CountsWf) _ fun _ => h
  | judged g r => exact State.judged_keeps (P := fun t => t.link.CountsWf) g r fun _ => h
  | _ => exact h

/-- Settles O58: the changes of the link are made with their counts in range, and no other move touches it. -/
theorem linkCountersLaw : Obligations.LinkCountersLaw := by
  unfold Obligations.LinkCountersLaw
  intro s t counts h
  refine step_keeps (P := fun s => s.link.CountsWf) (fun _ _ m => m.keeps_counts) (fun s g _ k => ?_) h counts
  obtain ⟨q, e, -⟩ := s.composed_spec g
  rw [e]
  exact k

/-! ## The Alert Table and the capture record's freeze (R52, R172 to R177) -/

/-- The laws of O46. -/
abbrev State.AlertsWf (s : State) : Prop := s.alerts.Wf ∧ s.CaptureWf

/-- The entries that come to owe notices one after another are latched, and the unit stays sound but for the line. -/
theorem AlertUnit.owe_foldl {ks : List AlertKey} {u : AlertUnit} (latched : ∀ k ∈ ks, k ∈ u.latched)
    (once : u.notices.Nodup) (sound : ∀ k ∈ u.notices, k ∈ u.latched ∧ u.unmasked k.kind = true) :
    let v := ks.foldl (fun (v : AlertUnit) k => v.owe k) u
    v.present = u.present ∧ v.latched = u.latched ∧ v.masked = u.masked ∧ v.notices.Nodup ∧
      ∀ k ∈ v.notices, k ∈ v.latched ∧ v.unmasked k.kind = true := by
  induction ks generalizing u with
  | nil => exact ⟨rfl, rfl, rfl, once, sound⟩
  | cons k ks ih =>
    obtain ⟨once', sound'⟩ := u.owe_wf k once sound (latched k List.mem_cons_self)
    obtain ⟨p, l, m, n, w⟩ := ih (u := u.owe k)
      (fun x hx => by simpa using latched x (List.mem_cons_of_mem _ hx)) once' sound'
    exact ⟨by simpa using p, by simpa using l, by simpa using m, n, w⟩

/-- Unmasking a kind keeps the unit sound. -/
theorem AlertUnit.unmask_wf {u : AlertUnit} (h : u.Wf) (kind : AlertKind) : (u.unmask kind).Wf := by
  obtain ⟨present, single, once, sound, line⟩ := h
  unfold AlertUnit.unmask
  split
  · exact ⟨present, single, once, sound, line⟩
  · have unmasked : ∀ c, u.unmasked c = true →
        ({ u with masked := u.masked.filter (fun k => decide (k ≠ kind)) } : AlertUnit).unmasked c = true := by
      intro c hc
      simp only [AlertUnit.unmasked, List.contains_eq_mem, Bool.not_eq_true', decide_eq_false_iff_not] at hc ⊢
      exact fun h => hc (List.mem_of_mem_filter h)
    obtain ⟨p, l, m, n, w⟩ := AlertUnit.owe_foldl
      (ks := u.latched.filter (fun k => decide (k.kind = kind)))
      (u := { u with masked := u.masked.filter (fun k => decide (k ≠ kind)) })
      (fun k hk => List.mem_of_mem_filter hk) once fun k hk => ⟨(sound k hk).1, unmasked _ (sound k hk).2⟩
    refine ⟨?_, ?_, n, w, rfl⟩
    · rw [AlertUnit.settleLine_present, AlertUnit.settleLine_latched, p, l]
      exact present
    · rw [AlertUnit.settleLine_present, p]
      exact single

/-- The freeze stays as it is where neither the masks nor the latch of LINK_EXCEPTION change. -/
theorem State.captureWf_congr {s t : State} (h : s.CaptureWf) (frozen : t.link.frozen = s.link.frozen)
    (masked : t.alerts.masked = s.alerts.masked)
    (latch : linkExceptionKey ∈ t.alerts.latched ↔ linkExceptionKey ∈ s.alerts.latched) : t.CaptureWf := by
  rw [State.CaptureWf, frozen, h, AlertUnit.unmasked_congr masked]
  simp only [List.contains_eq_mem, latch]

/-- A link exception latches its entry and freezes the record while the kind is UNMASKED (R52). -/
theorem State.noteException_alertsWf {s : State} (h : s.AlertsWf) (c : Capture) : (s.noteException c).AlertsWf := by
  obtain ⟨wf, freeze⟩ := h
  refine ⟨AlertUnit.event_wf wf linkExceptionKey, ?_⟩
  have latched : linkExceptionKey ∈ (s.alerts.event linkExceptionKey).latched :=
    (AlertUnit.mem_event_latched _ _ _ wf.1).mpr (.inl rfl)
  have unmasked : (s.alerts.event linkExceptionKey).unmasked .linkException = s.alerts.unmasked .linkException :=
    AlertUnit.unmasked_congr (by simp) _
  show (s.link.frozen || s.alerts.unmasked .linkException) =
    ((s.alerts.event linkExceptionKey).unmasked .linkException &&
      (s.alerts.event linkExceptionKey).latched.contains linkExceptionKey)
  rw [unmasked, List.contains_eq_mem, decide_eq_true latched, freeze]
  cases s.alerts.unmasked .linkException <;> simp

theorem Move.keeps_alerts {s t : State} (m : Move s t) (h : s.AlertsWf) : t.AlertsWf := by
  obtain ⟨wf, freeze⟩ := h
  have k : s.AlertsWf := ⟨wf, freeze⟩
  cases m with
  | raised key other =>
    refine ⟨AlertUnit.rise_wf wf key, State.captureWf_congr freeze rfl (AlertUnit.rise_masked _ _) ?_⟩
    exact (AlertUnit.mem_rise_latched _ _ _ wf.1).trans (or_iff_right other.symm)
  | lowered key =>
    refine ⟨AlertUnit.fall_wf wf key, State.captureWf_congr freeze rfl (AlertUnit.fall_masked _ _) ?_⟩
    exact (AlertUnit.fall_latched s.alerts key).symm ▸ Iff.rfl
  | delivered ns => exact ⟨AlertUnit.deliver_wf wf ns, freeze⟩
  | acknowledged scope => exact ⟨AlertUnit.acknowledge_wf wf scope, rfl⟩
  | masked kind m =>
    refine ⟨?_, rfl⟩
    cases m
    · exact AlertUnit.unmask_wf wf kind
    · exact AlertUnit.mask_wf wf kind
  | alertsCleared => exact ⟨reset_alertsWf, rfl⟩
  | excepted c => exact State.noteException_alertsWf k c
  | linked l counts frozen => exact ⟨wf, frozen.trans freeze⟩
  | wasReset => exact ⟨reset_alertsWf, reset_captureWf⟩
  | started | activated | passRequested | roadAccepted | closingStarted | closingMoved | closingEnded =>
    exact State.requestPass_keeps _ fun _ => k
  | judged g r => exact State.judged_keeps g r fun _ => k
  | _ => exact k

/-- Settles O46: the reports, masks and acknowledges keep the unit sound and settle the freeze; no other move touches
either. -/
theorem alertTableLaw : Obligations.AlertTableLaw := by
  unfold Obligations.AlertTableLaw
  intro s t wf freeze h
  refine step_keeps (P := State.AlertsWf) (fun _ _ m => m.keeps_alerts) (fun s g _ k => ?_) h ⟨wf, freeze⟩
  obtain ⟨q, e, -⟩ := s.composed_spec g
  rw [e]
  exact k

end Sys2Proof.Machine
end

section
/-! SUPPORT. The law of the table store: a record read from its bytes lies within its ranges, an accepted load keeps
the sections within their lengths, and every move keeps the fixed sizes of the state (R3 to R11). -/

namespace Sys2Proof.Machine

/-! ## Records read from their bytes (R5 to R11) -/

theorem firstFailing_eq_none {checks : List Bool} (h : firstFailing checks = none) : ∀ ok ∈ checks, ok = true := by
  unfold firstFailing at h
  rw [Option.map_eq_none_iff, List.findIdx?_eq_none_iff] at h
  simpa using h

theorem inRange_iff {lo hi v : Nat} : inRange lo hi v = true ↔ lo ≤ v ∧ v ≤ hi := by simp [inRange]

theorem isLimitValue_iff {v : Nat} : isLimitValue v = true ↔ 20 ≤ v ∧ v ≤ 120 ∧ v % 10 = 0 := by simp [isLimitValue]

theorem ascending_pairwise : ∀ {l : List Nat}, ascending l = true → l.Pairwise (· < ·)
  | [], _ => .nil
  | [_], _ => List.pairwise_singleton _ _
  | a :: b :: rest, h => by
    simp only [ascending, Bool.and_eq_true, decide_eq_true_eq] at h
    obtain ⟨ab, sorted⟩ := h
    have tail := ascending_pairwise sorted
    refine List.pairwise_cons.mpr ⟨fun x hx => ?_, tail⟩
    rcases List.mem_cons.mp hx with rfl | hx
    · exact ab
    · exact ab.trans (List.rel_of_pairwise_cons tail hx)

theorem lt_length_of_byteAt {b : List Byte} {i : Nat} (h : byteAt b i ≠ 0) : i < b.length := by
  by_contra out
  exact h (by simp [byteAt, List.getElem?_eq_none (Nat.le_of_not_lt out)])

theorem limitField_inTable {b : Nat} (h : isLimitValue b = true ∨ b = 255) : (limitField b).inTable = true := by
  unfold limitField
  split
  · rfl
  next ne => exact decide_eq_true (isLimitValue_iff.mp (h.resolve_right ne))

theorem bandLegend_cases (b : Nat) : bandLegend b = .blank ∨ bandLegend b = .congestion ∨ bandLegend b = .queueAhead := by
  unfold bandLegend
  split
  · exact .inr (.inl rfl)
  · split
    · exact .inr (.inr rfl)
    · exact .inl rfl

theorem windowOk_wf {w : Option (List Nat)} (h : windowOk w = true) :
    1 ≤ (w.getD []).length ∧ (w.getD []).length ≤ 3 ∧ (∀ n ∈ w.getD [], n ≤ 47) ∧ (w.getD []).Nodup := by
  cases w with
  | none => exact absurd h (by decide)
  | some w =>
    simp only [windowOk, Bool.and_eq_true, inRange_iff, List.all_eq_true, decide_eq_true_eq] at h
    obtain ⟨⟨⟨least, most⟩, numbers⟩, once⟩ := h
    exact ⟨least, most, numbers, once⟩

/-- The members of a Display Set field whose count is at least 1 and whose bytes reach beyond it. -/
theorem displaySetField_ne_nil {b : List Byte} (count : 1 ≤ byteAt b 0) (length : 1 < b.length) :
    displaySetField b ≠ [] := by
  intro h
  have := congrArg List.length h
  simp only [displaySetField, List.length_map, List.length_take, List.length_drop, List.length_nil] at this
  omega

theorem displaySetField_length {b : List Byte} {n : Nat} (count : byteAt b 0 ≤ n) : (displaySetField b).length ≤ n := by
  simp only [displaySetField, List.length_map, List.length_take]
  omega

theorem readParams_wf {b : List Byte} {p : Params} (h : readParams b = .inl p) : p.Wf := by
  unfold readParams at h
  dsimp only at h
  split at h
  · cases h
  next checks =>
    have all := firstFailing_eq_none checks
    simp only [List.forall_mem_cons, Bool.and_eq_true, inRange_iff, decide_eq_true_eq, List.all_eq_true,
      isLimitValue_iff] at all
    obtain ⟨l, e, r, -, gap, step, ⟨⟨count, members⟩, sorted⟩, fp, pt, so, co, se, rt, mh, cl, -⟩ := all
    have long : 18 < b.length := lt_length_of_byteAt (by omega)
    have count0 : byteAt (b.drop 6) 0 = byteAt b 6 := by simp [byteAt, List.getD_eq_getElem?_getD]
    have filled := displaySetField_ne_nil (b := b.drop 6) (by omega) (by rw [List.length_drop]; omega)
    have short := displaySetField_length (b := b.drop 6) (n := 11) (by omega)
    cases h
    exact ⟨l, e, r, gap, ⟨step.1.1, step.1.2, step.2⟩, ⟨filled, short, members, ascending_pairwise sorted⟩, fp, pt, so,
      co, se, rt, mh, cl⟩

theorem readStation_wf {b : List Byte} {d : StationDesc} (h : readStation b = .inl d) : d.Wf := by
  unfold readStation at h
  dsimp only at h
  split at h
  · cases h
  next checks =>
    have all := firstFailing_eq_none checks
    simp only [List.forall_mem_cons, Bool.and_eq_true, inRange_iff] at all
    obtain ⟨address, spacing, ⟨lanes, running⟩, -, governing, weight, hold, -⟩ := all
    cases h
    exact ⟨address, spacing, lanes, running, governing.2, weight, hold⟩

theorem readGantry_wf {b : List Byte} {d : GantryDesc} (h : readGantry b = .inl d) : d.Wf := by
  unfold readGantry at h
  dsimp only at h
  split at h
  · cases h
  next checks =>
    have all := firstFailing_eq_none checks
    simp only [List.forall_mem_cons, Bool.or_eq_true, inRange_iff, decide_eq_true_eq] at all
    obtain ⟨address, lanes, -, gmax, dwell, window, -, -, fallback, startup, hold, -⟩ := all
    cases h
    exact ⟨address, lanes, limitField_inTable gmax, dwell, windowOk_wf window, fallback.2, limitField_inTable startup,
      hold⟩

theorem readBand_wf {b : List Byte} {d : BandDesc} (h : readBand b = .inl d) : d.Wf := by
  unfold readBand at h
  split at h
  · cases h
  next checks =>
    have all := firstFailing_eq_none checks
    simp only [List.forall_mem_cons, inRange_iff, isLimitValue_iff] at all
    obtain ⟨von, voff, oon, ooff, limit, -⟩ := all
    cases h
    exact ⟨von.2, voff.2, oon.2, ooff.2, limit, bandLegend_cases _⟩

theorem readSlot_wf {b : List Byte} {x : Slot} (h : readSlot b = .inl x) : x.inTable = true := by
  unfold readSlot at h
  split at h
  · cases h; rfl
  · cases h; rfl
  · cases h; rfl
  · split at h
    next le => cases h; exact decide_eq_true le
    · cases h

theorem readRecords_wf {α : Type} {P : α → Prop} {read : List Byte → α ⊕ Nat}
    (one : ∀ b r, read b = .inl r → P r) : ∀ {bs : List (List Byte)} {i : Nat} {rs : List α},
      readRecords read i bs = .inl rs → ∀ r ∈ rs, P r
  | [], _, rs, h => by
    cases h
    nofun
  | b :: rest, i, rs, h => by
    unfold readRecords at h
    split at h
    · cases h
    next r hr =>
      split at h
      next rs' hrs =>
        cases h
        exact List.forall_mem_cons.mpr ⟨one b r hr, readRecords_wf one hrs⟩
      · cases h

/-! ## Sections written (R4) -/

theorem writeFrom_length {α : Type} (i : Nat) (records : List α) (places : List (Option α)) :
    (writeFrom i records places).length = places.length := by
  suffices h : ∀ (js : List Nat) (ps : List (Option α)),
      (js.foldl (fun ps j => ps.set (i + j) records[j]?) ps).length = ps.length from h _ _
  intro js
  induction js with
  | nil => exact fun _ => rfl
  | cons j js ih => exact fun ps => (ih _).trans List.length_set

theorem writeFrom_forall {α : Type} {P : α → Prop} {i : Nat} {records : List α} {places : List (Option α)}
    (new : ∀ r ∈ records, P r) (old : ∀ o ∈ places, ∀ r ∈ o, P r) : ∀ o ∈ writeFrom i records places, ∀ r ∈ o, P r := by
  suffices h : ∀ (js : List Nat) (ps : List (Option α)), (∀ o ∈ ps, ∀ r ∈ o, P r) →
      ∀ o ∈ js.foldl (fun ps j => ps.set (i + j) records[j]?) ps, ∀ r ∈ o, P r from h _ _ old
  intro js
  induction js with
  | nil => exact fun _ h => h
  | cons j js ih =>
    refine fun ps h => ih _ fun o ho => ?_
    rcases List.mem_or_eq_of_mem_set ho with ho | rfl
    · exact h o ho
    · exact fun r hr => new r (List.mem_of_getElem? hr)

theorem loadSection_length {α : Type} (length i : Nat) (records : List α) (places : List (Option α)) :
    (loadSection length i records places).length = length := by
  unfold loadSection
  rw [writeFrom_length]
  split
  · assumption
  · exact List.length_replicate

theorem loadSection_forall {α : Type} {P : α → Prop} {length i : Nat} {records : List α} {places : List (Option α)}
    (new : ∀ r ∈ records, P r) (old : ∀ o ∈ places, ∀ r ∈ o, P r) :
    ∀ o ∈ loadSection length i records places, ∀ r ∈ o, P r := by
  refine writeFrom_forall new ?_
  split
  · exact old
  · intro o ho
    rw [List.eq_of_mem_replicate ho]
    nofun

/-- An accepted load keeps the table store within its ranges (R3). -/
theorem Tables.load_wf {t u : Tables} {sect length first : Nat} {records : List (List Byte)} (wf : t.Wf)
    (h : t.load sect length first records = .inl u) : u.Wf := by
  unfold Tables.load at h
  dsimp only at h
  split at h
  · cases h
  next known =>
  split at h
  · cases h
  next range =>
  split at h
  · cases h
  obtain ⟨⟨p, params⟩, ⟨s, stations⟩, ⟨g, gantries⟩, ⟨b, bands⟩, c, cycle⟩ := wf
  simp only [Bool.not_eq_true', Bool.not_eq_false] at range known
  split at h
  · split at h
    next rs hrs =>
      cases h
      refine ⟨⟨?_, loadSection_forall (readRecords_wf (fun _ _ => readParams_wf) hrs) params⟩, ⟨s, stations⟩,
        ⟨g, gantries⟩, ⟨b, bands⟩, c, cycle⟩
      rw [loadSection_length]
      exact (of_decide_eq_true range).le
    · cases h
  · split at h
    next rs hrs =>
      cases h
      refine ⟨⟨p, params⟩, ⟨?_, loadSection_forall (readRecords_wf (fun _ _ => readStation_wf) hrs) stations⟩,
        ⟨g, gantries⟩, ⟨b, bands⟩, c, cycle⟩
      rw [loadSection_length]
      exact (inRange_iff.mp range).2
    · cases h
  · split at h
    next rs hrs =>
      cases h
      refine ⟨⟨p, params⟩, ⟨s, stations⟩,
        ⟨?_, loadSection_forall (readRecords_wf (fun _ _ => readGantry_wf) hrs) gantries⟩, ⟨b, bands⟩, c, cycle⟩
      rw [loadSection_length]
      exact (inRange_iff.mp range).2
    · cases h
  · split at h
    next rs hrs =>
      cases h
      refine ⟨⟨p, params⟩, ⟨s, stations⟩, ⟨g, gantries⟩,
        ⟨?_, loadSection_forall (readRecords_wf (fun _ _ => readBand_wf) hrs) bands⟩, c, cycle⟩
      rw [loadSection_length]
      exact (inRange_iff.mp range).2
    · cases h
  next _ n1 n2 n3 n4 =>
    have five : sect = 5 := by
      have others : sect ≠ 1 ∧ sect ≠ 2 ∧ sect ≠ 3 ∧ sect ≠ 4 := ⟨n1, n2, n3, n4⟩
      have := inRange_iff.mp known
      omega
    subst five
    split at h
    next rs hrs =>
      cases h
      refine ⟨⟨p, params⟩, ⟨s, stations⟩, ⟨g, gantries⟩, ⟨b, bands⟩, ?_,
        loadSection_forall (P := fun x : Slot => x.inTable = true) (readRecords_wf (fun _ _ => readSlot_wf) hrs) cycle⟩
      rw [loadSection_length]
      exact (inRange_iff.mp range).2
    · cases h

theorem Move.keeps_tables {s t : State} (m : Move s t) (h : s.tables.Wf) : t.tables.Wf := by
  cases m with
  | loaded t unconfigured accepted | unloaded t standby accepted =>
    obtain ⟨_, _, _, _, e⟩ := accepted
    exact Tables.load_wf h e
  | wasReset => exact reset_tablesWf
  | started | activated | passRequested | roadAccepted | closingStarted | closingMoved | closingEnded =>
    exact State.requestPass_keeps (P := fun t => t.tables.Wf) _ fun _ => h
  | judged g r => exact State.judged_keeps (P := fun t => t.tables.Wf) g r fun _ => h
  | _ => exact h

/-! ## Sizes -/

/-- The part of the sizes that the Closure Unit holds. -/
abbrev ClosureUnit.ShapeWf (u : ClosureUnit) : Prop :=
  u.shoulders.length = Config.maxGantries ∧ u.overlays.length = Config.maxGantries ∧
    ∀ row ∈ u.overlays, row.length = Config.maxLanes

theorem addOverlays_length (id : Nat) (cells : List (Nat × Nat)) (o : List (List (List Nat))) :
    (addOverlays id cells o).length = o.length := List.length_mapIdx

theorem addOverlays_rows {id n : Nat} {cells : List (Nat × Nat)} {o : List (List (List Nat))}
    (h : ∀ row ∈ o, row.length = n) : ∀ row ∈ addOverlays id cells o, row.length = n := by
  intro row hr
  obtain ⟨i, hi, rfl⟩ := List.mem_mapIdx.mp hr
  rw [List.length_mapIdx]
  exact h _ (List.getElem_mem hi)

theorem dropOverlays_rows {id n : Nat} {o : List (List (List Nat))} (h : ∀ row ∈ o, row.length = n) :
    ∀ row ∈ dropOverlays id o, row.length = n := by
  intro row hr
  obtain ⟨old, hold, rfl⟩ := List.mem_map.mp hr
  rw [List.length_map]
  exact h _ hold

theorem ClosureUnit.reset_shapeWf : ClosureUnit.reset.ShapeWf := by decide

theorem StationRec.forall_emptyRecords_lanes :
    ∀ r ∈ List.replicate Config.maxStations StationRec.empty, r.lanes.length = Config.maxLanes := by
  intro r hr
  rw [List.eq_of_mem_replicate hr]
  rfl

theorem Move.keeps_shape {s t : State} (m : Move s t) (h : s.ShapeWf) : t.ShapeWf := by
  obtain ⟨stations, lanes, control, delivery, shoulders, overlays, rows⟩ := h
  have k : s.ShapeWf := ⟨stations, lanes, control, delivery, shoulders, overlays, rows⟩
  have empty : (List.replicate Config.maxStations StationRec.empty).length = Config.maxStations := List.length_replicate
  have quiet : (List.replicate Config.maxGantries GantryControl.reset).length = Config.maxGantries :=
    List.length_replicate
  have bare : ∀ (f : DeliveryRec → DeliveryRec), (s.composer.delivery.map f).length = Config.maxGantries :=
    fun f => List.length_map f |>.trans delivery
  have set : ∀ g x, (s.closures.shoulders.set g x).length = Config.maxGantries :=
    fun g x => List.length_set.trans shoulders
  cases m with
  | stations l length lanes' => exact ⟨length.trans stations, lanes' lanes, control, delivery, shoulders, overlays, rows⟩
  | wasReset => exact reset_shapeWf
  | stopped signing =>
    exact ⟨stations, lanes, (List.length_map _).trans control, bare _, shoulders, overlays, rows⟩
  | unloaded t standby accepted =>
    exact ⟨empty, StationRec.forall_emptyRecords_lanes, quiet, List.length_replicate, ClosureUnit.reset_shapeWf⟩
  | measured unreset unconfigured passed =>
    exact ⟨empty, StationRec.forall_emptyRecords_lanes, quiet, delivery, shoulders, overlays, rows⟩
  | restarted => exact ⟨empty, StationRec.forall_emptyRecords_lanes, quiet, bare _, ClosureUnit.reset_shapeWf⟩
  | controlled l demands =>
    have same := congrArg List.length demands
    rw [List.length_map, List.length_map] at same
    exact ⟨stations, lanes, same.trans control, delivery, shoulders, overlays, rows⟩
  | recorded l readings =>
    have same := congrArg List.length readings
    rw [List.length_map, List.length_map] at same
    exact ⟨stations, lanes, control, same.trans delivery, shoulders, overlays, rows⟩
  | roadAccepted id road =>
    exact State.requestPass_keeps (P := State.ShapeWf) _ fun _ => ⟨stations, lanes, control, delivery, shoulders,
      (addOverlays_length _ _ _).trans overlays, addOverlays_rows rows⟩
  | roadCleared =>
    exact ⟨stations, lanes, control, delivery, shoulders, (List.length_map _).trans overlays, dropOverlays_rows rows⟩
  | openingAccepted | openingMoved => exact ⟨stations, lanes, control, delivery, set _ _, overlays, rows⟩
  | closingStarted | closingEnded =>
    exact State.requestPass_keeps (P := State.ShapeWf) _ fun _ =>
      ⟨stations, lanes, control, delivery, set _ _, overlays, rows⟩
  | closingMoved =>
    exact State.requestPass_keeps (P := State.ShapeWf) _ fun _ =>
      ⟨stations, lanes, control, delivery, List.length_set.trans (set _ _), overlays, rows⟩
  | judged g r =>
    exact State.judged_keeps (P := State.ShapeWf) g r fun _ =>
      ⟨stations, lanes, control, List.length_set.trans delivery, shoulders, overlays, rows⟩
  | started | activated | passRequested => exact State.requestPass_keeps (P := State.ShapeWf) _ fun _ => k
  | _ => exact k

theorem State.composed_shapeWf {s : State} (g : Nat) (h : s.ShapeWf) : (s.composed g).ShapeWf := by
  obtain ⟨stations, lanes, control, delivery, shape⟩ := h
  obtain ⟨q, e, -⟩ := s.composed_spec g
  rw [e]
  exact ⟨stations, lanes, List.length_set.trans control, List.length_set.trans delivery, shape⟩

theorem State.composed_tables (g : Nat) (s : State) : (s.composed g).tables = s.tables := by
  obtain ⟨q, e, -⟩ := s.composed_spec g
  rw [e]
  rfl

/-- Settles O48: a load writes records read within their ranges into a section of its declared length, and the moves
and the visits replace record lists by lists of the same length. -/
theorem tableStoreLaw : Obligations.TableStoreLaw := by
  unfold Obligations.TableStoreLaw
  intro s t shape tables h
  exact step_keeps (P := fun s => s.ShapeWf ∧ s.tables.Wf) (fun _ _ m k => ⟨m.keeps_shape k.1, m.keeps_tables k.2⟩)
    (fun s g _ k => ⟨State.composed_shapeWf g k.1, (State.composed_tables g s).symm ▸ k.2⟩) h ⟨shape, tables⟩

end Sys2Proof.Machine
end

section
/-! SUPPORT. The laws of the passes, the Sign Command Queue and the order registers: what the moves do to an entry of
the Closure Register, and that every step keeps the registers and the places of the orders (R106, R119, R120, R131,
R146). -/

namespace Sys2Proof.Machine

/-! ## Quiet outside STARTUP and ACTIVE (R18, R21, R140, R146, R156) -/

/-- Whether every gantry of a list of Gantry Delivery Records is without a demand reads their readings alone. -/
theorem DeliveryRec.forall_demanded_none {l : List DeliveryRec} :
    (∀ r ∈ l, r.demanded = none) ↔ ∀ x ∈ l.map DeliveryRec.reading, x.1 = none := by
  simp [DeliveryRec.reading]

theorem GantryControl.forall_demanded_none {l : List GantryControl} :
    (∀ c ∈ l, c.demanded = none) ↔ ∀ x ∈ l.map GantryControl.demanded, x = none := by simp

theorem State.requestPass_quietWf {s : State} (h : Nat) (k : s.QuietWf) : (s.requestPass h).QuietWf := by
  obtain ⟨p, e, quiet, -⟩ := s.requestPass_spec h
  rw [e]
  intro q
  obtain ⟨pass, rest⟩ := k q
  exact ⟨(quiet q).trans pass, rest⟩

theorem State.requestSites_quietWf {s : State} (g : Nat) (k : s.QuietWf) : (s.requestSites g).QuietWf := by
  obtain ⟨p, e, quiet, -⟩ := s.requestSites_spec g
  rw [e]
  intro q
  obtain ⟨pass, rest⟩ := k q
  exact ⟨(quiet q).trans pass, rest⟩

theorem State.signing_of_mode {s : State} (h : s.mode = .startup ∨ s.mode = .active) : s.signing = true :=
  (s.signing_iff).mpr h

/-- While the segment signs, the law of the quiet modes asks for nothing. -/
theorem State.quietWf_of_signing {s : State} (h : s.signing = true) : s.QuietWf :=
  fun q => absurd (q.symm.trans h) (by decide)

theorem GantryControl.forall_reset : ∀ c ∈ List.replicate Config.maxGantries GantryControl.reset, c.demanded = none := by
  decide

theorem DeliveryRec.forall_reset : ∀ r ∈ Composer.reset.delivery, r.demanded = none := by decide

theorem DeliveryRec.forall_undemanded (l : List DeliveryRec) :
    ∀ r ∈ l.map (fun r => { r with demanded := none }), r.demanded = none := by simp

theorem Move.keeps_quiet {s t : State} (m : Move s t) (k : s.QuietWf) : t.QuietWf := by
  cases m with
  | wasReset => exact reset_quietWf
  | started standby => exact State.requestPass_quietWf _ (State.quietWf_of_signing (State.signing_of_mode (.inl rfl)))
  | activated startup => exact State.requestPass_quietWf _ (State.quietWf_of_signing (State.signing_of_mode (.inr rfl)))
  | stopped signing =>
    refine fun _ => ⟨rfl, rfl, ?_, DeliveryRec.forall_undemanded _⟩
    simp [State.clearDemands, State.stopDemands]
  | unloaded t standby accepted => exact fun _ => ⟨rfl, rfl, GantryControl.forall_reset, DeliveryRec.forall_reset⟩
  | measured unreset unconfigured passed =>
    have quiet : s.signing = false := by
      rw [Bool.eq_false_iff]
      exact fun h => absurd (State.configured_of_signing h) (by simp [unconfigured])
    obtain ⟨pass, queue, -, delivery⟩ := k quiet
    exact fun _ => ⟨pass, queue, GantryControl.forall_reset, delivery⟩
  | restarted => exact fun _ => ⟨rfl, rfl, GantryControl.forall_reset, DeliveryRec.forall_undemanded _⟩
  | controlled l demands =>
    intro q
    obtain ⟨pass, queue, control, delivery⟩ := k q
    refine ⟨pass, queue, ?_, delivery⟩
    rw [GantryControl.forall_demanded_none, demands]
    exact GantryControl.forall_demanded_none.mp control
  | recorded l readings =>
    intro q
    obtain ⟨pass, queue, control, delivery⟩ := k q
    refine ⟨pass, queue, control, ?_⟩
    rw [DeliveryRec.forall_demanded_none, readings]
    exact DeliveryRec.forall_demanded_none.mp delivery
  | judged g r demand =>
    refine State.requestPass_quietWf g (State.requestSites_quietWf g fun q => ?_)
    obtain ⟨pass, queue, control, delivery⟩ := k q
    refine ⟨pass, queue, control, fun x hx => ?_⟩
    rcases List.mem_or_eq_of_mem_set hx with hx | rfl
    · exact delivery x hx
    · rw [demand]
      by_cases inside : g < s.composer.delivery.length
      · rw [s.deliveryRec_of_lt inside]
        exact delivery _ (List.getElem_mem inside)
      · rw [s.deliveryRec_of_le (Nat.le_of_not_lt inside)]
        rfl
  | queued q once quiet =>
    intro now
    obtain ⟨pass, queue, rest⟩ := k now
    exact ⟨pass, quiet now queue, rest⟩
  | passRequested | roadAccepted | closingStarted | closingMoved | closingEnded =>
    exact State.requestPass_quietWf _ k
  | _ => exact k

theorem Move.keeps_signQueue {s t : State} (m : Move s t) (k : s.SignQueueWf) : t.SignQueueWf := by
  cases m with
  | wasReset => exact reset_signQueueWf
  | stopped | unloaded | restarted => exact List.nodup_nil
  | queued q once quiet => exact once k
  | started | activated | passRequested | roadAccepted | closingStarted | closingMoved | closingEnded =>
    exact State.requestPass_keeps (P := State.SignQueueWf) _ fun _ => k
  | judged g r => exact State.judged_keeps (P := State.SignQueueWf) g r fun _ => k
  | _ => exact k

/-- A pass runs in STARTUP and ACTIVE alone (R140). -/
theorem State.signing_of_pass {s : State} {g : Nat} (k : s.QuietWf) (pass : s.composer.pass = some g) :
    s.signing = true := by
  by_contra quiet
  have idle := (k (Bool.eq_false_iff.mpr quiet)).1
  rw [pass] at idle
  cases idle

theorem State.composed_signing (g : Nat) (s : State) : (s.composed g).signing = s.signing := by
  obtain ⟨q, e, -⟩ := s.composed_spec g
  rw [e]
  rfl

theorem State.composed_quietWf {s : State} {g : Nat} (k : s.QuietWf) (pass : s.composer.pass = some g) :
    (s.composed g).QuietWf :=
  State.quietWf_of_signing ((s.composed_signing g).trans (State.signing_of_pass k pass))

/-- Settles O49: the moves that leave STARTUP and ACTIVE empty the composer and the demands, and a visit happens only
while the segment signs. -/
theorem quietOutsideSigningLaw : Obligations.QuietOutsideSigningLaw := by
  unfold Obligations.QuietOutsideSigningLaw
  intro s t quiet once h
  refine step_keeps (P := fun s => s.QuietWf ∧ s.SignQueueWf)
    (fun _ _ m k => ⟨m.keeps_quiet k.1, m.keeps_signQueue k.2⟩)
    (fun s g pass k => ⟨State.composed_quietWf k.1 pass, ?_⟩) h ⟨quiet, once⟩
  obtain ⟨q, e, once⟩ := s.composed_spec g
  rw [e]
  exact once k.2

/-! ## Dwell (R116) -/

/-- A gantry holds no demanded limit, or the one it holds in another state. -/
def State.DemandsWithin (t s : State) (g : Nat) : Prop :=
  ∀ l ∈ (t.gantryControl g).demanded, l ∈ (s.gantryControl g).demanded

/-- Where a gantry holds a demanded limit after a move, it held the same before. -/
theorem Move.demanded {s t : State} (m : Move s t) (g : Nat) : t.DemandsWithin s g := by
  have fresh : ∀ u : State, u.control = List.replicate Config.maxGantries .reset →
      u.DemandsWithin s g := by
    intro u e l h
    have : u.gantryControl g = .reset := by
      simp only [State.gantryControl, e, List.getD_eq_getElem?_getD, List.getElem?_replicate]
      split <;> rfl
    rw [this] at h
    cases h
  have same : s.DemandsWithin s g := fun _ h => h
  cases m with
  | wasReset | unloaded | measured | restarted => exact fresh _ rfl
  | stopped signing =>
    intro l h
    simp only [State.clearDemands, State.stopDemands, State.gantryControl, List.getD_eq_getElem?_getD,
      List.getElem?_map, State.setMode_control] at h
    cases e : s.control[g]? with
    | none =>
      rw [e] at h
      cases h
    | some c =>
      rw [e] at h
      cases h
  | controlled l demands =>
    have at_g : ∀ u : State, (u.gantryControl g).demanded = ((u.control.map GantryControl.demanded)[g]?).getD none := by
      intro u
      simp only [State.gantryControl, List.getD_eq_getElem?_getD, List.getElem?_map]
      cases u.control[g]? <;> rfl
    rw [State.DemandsWithin, at_g, at_g, demands]
    exact fun _ h => h
  | started | activated | passRequested | roadAccepted | closingStarted | closingMoved | closingEnded =>
    exact State.requestPass_keeps (P := fun t => t.DemandsWithin s g) _ fun _ => same
  | judged g' r =>
    exact State.judged_keeps (P := fun t => t.DemandsWithin s g) g' r fun _ => same
  | _ => exact same

theorem Moves.demanded {s t : State} (h : Moves s t) (g : Nat) : t.DemandsWithin s g := by
  induction h with
  | refl => exact fun _ h => h
  | tail _ m ih => exact fun l h => ih l (m.demanded g l h)

/-- While the dwell timer runs the decision takes no limit above the demanded one (R116). -/
theorem GantryControl.settleDwell_le {p : Params} {dwell : Nat} {candidate l m : Limit} {c : GantryControl}
    (running : 0 < c.dwell) (was : c.demanded = some l) (is : (c.settleDwell p dwell candidate).demanded = some m) :
    p.value m ≤ p.value l := by
  unfold GantryControl.settleDwell at is
  dsimp only at is
  rw [was] at is
  dsimp only at is
  split at is
  · cases is
    exact le_rfl
  next above =>
    cases is
    exact Nat.le_of_not_lt fun lt => above ⟨lt, running⟩

theorem State.decided_control_self (g : Nat) (s : State) (h : g < s.control.length) :
    (s.decided g).gantryControl g =
      (s.gantryControl g).settleDwell s.par (s.tables.gantry g).dwell
        ((s.setRegister (s.settledRegister g)).candidate g ((s.setRegister (s.settledRegister g)).closureCaps g)) := by
  show ((s.control.set g _).getD g .reset) = _
  simp only [List.getD_eq_getElem?_getD, List.getElem?_set_self h, Option.getD_some]
  rfl

theorem State.decided_control_other {g h : Nat} (s : State) (ne : h ≠ g ∨ s.control.length ≤ g) :
    (s.decided g).gantryControl h = s.gantryControl h := by
  show ((s.control.set g _).getD h .reset) = s.control.getD h .reset
  rcases ne with ne | out
  · simp only [List.getD_eq_getElem?_getD, List.getElem?_set_ne ne.symm]
  · rw [List.set_eq_of_length_le out]

theorem State.composed_control (g h : Nat) (s : State) :
    (s.composed g).gantryControl h = (s.decided g).gantryControl h := by
  obtain ⟨q, e, -⟩ := s.composed_spec g
  rw [e]
  rfl

/-- Settles O60: no move but a visit sets a demanded limit, and the dwell decision of a visit takes no higher one while
the timer runs. -/
theorem dwellLaw : Obligations.DwellLaw := by
  unfold Obligations.DwellLaw
  intro s t g l m h running was is
  obtain moves | ⟨rest, v, pass, moves⟩ := step_moves h
  · cases was.symm.trans (moves.demanded g m is)
    exact le_rfl
  · have after := moves.demanded g m is
    rw [State.composed_control] at after
    by_cases here : g = v ∧ v < s.control.length
    · obtain ⟨rfl, inside⟩ := here
      rw [State.decided_control_self g { s with pending := rest } inside] at after
      exact GantryControl.settleDwell_le running was after
    · have elsewhere : g ≠ v ∨ s.control.length ≤ v := by
        by_cases e : g = v
        · exact .inr (Nat.le_of_not_lt fun lt => here ⟨e, lt⟩)
        · exact .inl e
      rw [State.decided_control_other { s with pending := rest } elsewhere] at after
      cases was.symm.trans after
      exact le_rfl

end Sys2Proof.Machine
end

section
/-! SUPPORT. The laws of the order registers: what the moves and the visits do to the entries of the Closure Register,
and that every step keeps the sizes, ids, slots, lists, coverage and places of the orders (R106, R119, R120, R125,
R131). -/

namespace Sys2Proof.Machine

/-! ## The outline of an entry -/

/-- What the laws of the registers read of an entry of the Closure Register: its id, its slot, and the range of a
shoulder order. -/
def Closure.outline (c : Closure) : Nat × Nat × Option (Nat × Nat) :=
  (c.id, c.slot, match c.body with
    | .road _ => none
    | .shoulder o => some (o.firstGantry, o.lastGantry))

theorem ClosureUnit.ids_eq (u : ClosureUnit) : u.ids = (u.register.map Closure.outline).map Prod.fst := by
  rw [List.map_map]
  rfl

theorem ClosureUnit.slots_eq (u : ClosureUnit) :
    u.register.map Closure.slot = (u.register.map Closure.outline).map (fun x => x.2.1) := by
  rw [List.map_map]
  rfl

theorem ClosureUnit.roadIds_eq (u : ClosureUnit) : u.roadIds =
    (u.register.map Closure.outline).filterMap (fun x => if x.2.2.isNone then some x.1 else none) := by
  rw [List.filterMap_map]
  refine List.filterMap_congr fun c _ => ?_
  rcases c with ⟨id, slot, r | o⟩ <;> rfl

theorem ClosureUnit.ranges_eq (u : ClosureUnit) :
    u.ranges = (u.register.map Closure.outline).filterMap (fun x => x.2.2) := by
  unfold ClosureUnit.ranges ClosureUnit.shoulderOrders
  rw [List.filterMap_map, List.map_filterMap]
  refine List.filterMap_congr fun c _ => ?_
  rcases c with ⟨id, slot, r | o⟩ <;> rfl

theorem ClosureUnit.mem_roadIds {u : ClosureUnit} {id : Nat} :
    id ∈ u.roadIds ↔ ∃ c ∈ u.register, (∃ r, c.body = .road r) ∧ c.id = id := by
  unfold ClosureUnit.roadIds
  rw [List.mem_filterMap]
  constructor
  · rintro ⟨⟨i, n, r | o⟩, hc, e⟩
    · cases e
      exact ⟨_, hc, ⟨r, rfl⟩, rfl⟩
    · cases e
  · rintro ⟨⟨i, n, b⟩, hc, ⟨r, rfl⟩, rfl⟩
    exact ⟨_, hc, rfl⟩

theorem ClosureUnit.mem_roads {u : ClosureUnit} {r : RoadClosure} :
    r ∈ u.roads ↔ ∃ c ∈ u.register, c.body = .road r := by
  unfold ClosureUnit.roads
  rw [List.mem_filterMap]
  constructor
  · rintro ⟨⟨i, n, r | o⟩, hc, e⟩
    · cases e
      exact ⟨_, hc, rfl⟩
    · cases e
  · rintro ⟨⟨i, n, b⟩, hc, rfl⟩
    exact ⟨_, hc, rfl⟩

theorem ClosureUnit.mem_ranges {u : ClosureUnit} {x : Nat × Nat} :
    x ∈ u.ranges ↔ ∃ c ∈ u.register, ∃ o, c.body = .shoulder o ∧ x = (o.firstGantry, o.lastGantry) := by
  unfold ClosureUnit.ranges
  rw [List.mem_map]
  constructor
  · rintro ⟨⟨slot, o⟩, h, rfl⟩
    obtain ⟨c, hc, rfl, body⟩ := ClosureUnit.mem_shoulderOrders.mp h
    exact ⟨c, hc, o, body, rfl⟩
  · rintro ⟨c, hc, o, body, rfl⟩
    exact ⟨(c.slot, o), ClosureUnit.mem_shoulderOrders.mpr ⟨c, hc, rfl, body⟩, rfl⟩

/-- Slots held once tell the entries apart. -/
theorem Closure.eq_of_slot {l : List Closure} (once : (l.map Closure.slot).Nodup) {c d : Closure} (hc : c ∈ l)
    (hd : d ∈ l) (same : c.slot = d.slot) : c = d :=
  List.inj_on_of_nodup_map once hc hd same

theorem Closure.eq_of_id {l : List Closure} (once : (l.map Closure.id).Nodup) {c d : Closure} (hc : c ∈ l)
    (hd : d ∈ l) (same : c.id = d.id) : c = d :=
  List.inj_on_of_nodup_map once hc hd same

/-- An order replaced in its slot changes nothing that does not tell the two orders apart. -/
theorem putShoulder_map {α : Type} (f : Closure → α) {u : ClosureUnit} {slot : Nat} {o o' : ShoulderOrder}
    (held : (slot, o) ∈ u.shoulderOrders) (once : (u.register.map Closure.slot).Nodup)
    (same : ∀ id, f { id := id, slot := slot, body := .shoulder o' } = f { id := id, slot := slot, body := .shoulder o }) :
    (putShoulder u.register slot o').map f = u.register.map f := by
  obtain ⟨d, hd, here, body⟩ := ClosureUnit.mem_shoulderOrders.mp held
  unfold putShoulder
  rw [List.map_map]
  refine List.map_congr_left fun c hc => ?_
  by_cases hs : c.slot = slot
  · rw [Function.comp_apply, if_pos hs]
    cases Closure.eq_of_slot once hc hd (hs.trans here.symm)
    rcases d with ⟨id, n, b⟩
    dsimp only at hs body
    subst hs body
    exact same id
  · rw [Function.comp_apply, if_neg hs]

theorem putShoulder_outline {u : ClosureUnit} {slot : Nat} {o o' : ShoulderOrder}
    (held : (slot, o) ∈ u.shoulderOrders) (once : (u.register.map Closure.slot).Nodup)
    (first : o'.firstGantry = o.firstGantry) (last : o'.lastGantry = o.lastGantry) :
    (putShoulder u.register slot o').map Closure.outline = u.register.map Closure.outline :=
  putShoulder_map _ held once fun id => by simp [Closure.outline, first, last]

theorem State.settledRegister_outline (g : Nat) (s : State) :
    (s.settledRegister g).map Closure.outline = s.closures.register.map Closure.outline := by
  unfold State.settledRegister
  rw [List.map_map]
  refine List.map_congr_left fun c _ => ?_
  rcases c with ⟨id, slot, r | o⟩
  · by_cases h : r.site = g
    · simp [h, Closure.outline]
    · simp [h]
  · rfl

theorem tick_outline (l : List Closure) : (l.map Closure.tick).map Closure.outline = l.map Closure.outline := by
  rw [List.map_map]
  refine List.map_congr_left fun c _ => ?_
  rcases c with ⟨id, slot, r | o⟩ <;> rfl

/-! ## Acceptance (R107, R119, R121) -/

/-- An id that neither register holds. -/
theorem State.idHeldBy_eq_none {s : State} {id : Nat} (h : s.idHeldBy id = none) :
    id ∉ s.limitOrders.map LimitOrder.id ∧ id ∉ s.closures.ids := by
  unfold State.idHeldBy at h
  split at h
  · cases h
  next limits =>
    split at h
    · cases h
    next closures =>
      simp only [Bool.not_eq_true, List.any_eq_false, beq_iff_eq] at limits closures
      refine ⟨fun hm => ?_, fun hm => ?_⟩
      · obtain ⟨o, ho, e⟩ := List.mem_map.mp hm
        exact limits o ho e
      · obtain ⟨c, hc, e⟩ := List.mem_map.mp hm
        exact closures c hc e

/-- While the register has room its free slot is one of the twelve and free (R119). -/
theorem ClosureUnit.freeSlot_spec {u : ClosureUnit} (room : u.register.length < Config.closureRegisterSize) :
    u.freeSlot < Config.closureRegisterSize ∧ u.freeSlot ∉ u.register.map Closure.slot := by
  unfold ClosureUnit.freeSlot
  cases h : (List.range Config.closureRegisterSize).find? (fun n => !u.register.any (fun c => c.slot == n)) with
  | some n =>
    have free := List.find?_some h
    simp only [Bool.not_eq_true', List.any_eq_false, beq_iff_eq] at free
    refine ⟨List.mem_range.mp (List.mem_of_find?_eq_some h), fun hm => ?_⟩
    obtain ⟨c, hc, e⟩ := List.mem_map.mp hm
    exact free c hc e
  | none =>
    rw [List.find?_eq_none] at h
    have covered : List.range Config.closureRegisterSize ⊆ u.register.map Closure.slot := by
      intro n hn
      have held := h n hn
      simp only [Bool.not_eq_true', Bool.not_eq_false, List.any_eq_true, beq_iff_eq] at held
      obtain ⟨c, hc, e⟩ := held
      exact List.mem_map.mpr ⟨c, hc, e⟩
    have := (List.subperm_of_subset List.nodup_range covered).length_le
    rw [List.length_range, List.length_map] at this
    omega

/-- An accepted range meets no shoulder order's (R131). -/
theorem State.overlapping_eq_none {s : State} {first last : Nat} (h : s.overlapping first last = none) :
    ∀ x ∈ s.closures.ranges, apart x (first, last) := by
  unfold State.overlapping at h
  rw [Option.map_eq_none_iff, List.find?_eq_none] at h
  intro x hx
  obtain ⟨c, hc, o, body, rfl⟩ := ClosureUnit.mem_ranges.mp hx
  have free := h c hc
  simp only [body, decide_eq_true_eq] at free
  show o.lastGantry < first ∨ last < o.firstGantry
  omega

/-! ## The registers and the lists (R106, R119, R120, R131) -/

/-- The law of one state's Lane Overlay Lists: at most 4 ids, none twice, each of a road closure (R120). -/
abbrev ListsWf (overlays : List (List (List Nat))) (roadIds : List Nat) : Prop :=
  ∀ row ∈ overlays, ∀ ids ∈ row, ids.length ≤ Config.overlaySize ∧ ids.Nodup ∧ ∀ id ∈ ids, id ∈ roadIds

theorem ListsWf.mono {o : List (List (List Nat))} {a b : List Nat} (h : ListsWf o a) (sub : a ⊆ b) : ListsWf o b := by
  intro row hr ids hi
  obtain ⟨length, once, held⟩ := h row hr ids hi
  exact ⟨length, once, fun id hid => sub (held id hid)⟩

/-- The laws of the registers read the limit orders, the outlines and the lists alone. -/
theorem State.OrdersWf.congr {s t : State} (h : s.OrdersWf) (limits : t.limitOrders = s.limitOrders)
    (outline : t.closures.register.map Closure.outline = s.closures.register.map Closure.outline)
    (overlays : t.closures.overlays = s.closures.overlays) : t.OrdersWf := by
  obtain ⟨few, fewer, ids, slots, range, lists, ranges⟩ := h
  have length := congrArg List.length outline
  rw [List.length_map, List.length_map] at length
  have slotsEq : t.closures.register.map Closure.slot = s.closures.register.map Closure.slot := by
    rw [ClosureUnit.slots_eq, outline, ← ClosureUnit.slots_eq]
  refine ⟨limits ▸ few, length ▸ fewer, ?_, slotsEq ▸ slots, fun c hc => ?_, ?_, ?_⟩
  · rw [limits, ClosureUnit.ids_eq, outline, ← ClosureUnit.ids_eq]
    exact ids
  · have : c.slot ∈ s.closures.register.map Closure.slot := slotsEq ▸ List.mem_map_of_mem hc
    obtain ⟨d, hd, e⟩ := List.mem_map.mp this
    exact e ▸ range d hd
  · rw [overlays, ClosureUnit.roadIds_eq, outline, ← ClosureUnit.roadIds_eq]
    exact lists
  · rw [ClosureUnit.ranges_eq, outline, ← ClosureUnit.ranges_eq]
    exact ranges

/-- Registers with orders taken out keep their laws, where the lists do. -/
theorem State.OrdersWf.sublist {s t : State} (h : s.OrdersWf) (limits : t.limitOrders.Sublist s.limitOrders)
    (register : t.closures.register.Sublist s.closures.register)
    (lists : ListsWf t.closures.overlays t.closures.roadIds) : t.OrdersWf := by
  obtain ⟨few, fewer, ids, slots, range, -, ranges⟩ := h
  refine ⟨limits.length_le.trans few, register.length_le.trans fewer, ?_, (register.map _).nodup slots,
    fun c hc => range c (register.subset hc), lists, ?_⟩
  · exact ((limits.map _).append (register.map _)).nodup ids
  · rw [ClosureUnit.ranges_eq] at ranges ⊢
    exact ranges.sublist ((register.map _).filterMap _)

/-- An entry of a fresh id in the free slot at the end of the Closure Register keeps the laws of the registers. -/
theorem State.OrdersWf.append {s t : State} {id : Nat} {body : ClosureBody} (h : s.OrdersWf)
    (room : s.closures.register.length < Config.closureRegisterSize) (fresh : s.idHeldBy id = none)
    (limits : t.limitOrders = s.limitOrders)
    (register : t.closures.register = s.closures.register ++ [{ id := id, slot := s.closures.freeSlot, body := body }])
    (lists : ListsWf t.closures.overlays t.closures.roadIds)
    (ranges : t.closures.ranges.Pairwise apart) : t.OrdersWf := by
  obtain ⟨few, -, ids, slots, range, -, -⟩ := h
  obtain ⟨newLimit, newClosure⟩ := State.idHeldBy_eq_none fresh
  obtain ⟨slotRange, newSlot⟩ := ClosureUnit.freeSlot_spec room
  refine ⟨limits ▸ few, ?_, ?_, ?_, ?_, lists, ranges⟩
  · rw [register, List.length_append]
    exact room
  · have e : t.closures.ids = s.closures.ids ++ [id] := by
      unfold ClosureUnit.ids
      rw [register, List.map_append]
      rfl
    rw [limits, e, ← List.append_assoc]
    refine List.nodup_append'.mpr ⟨ids, List.nodup_singleton _, ?_⟩
    rw [List.disjoint_singleton, List.mem_append]
    exact fun h => h.elim newLimit newClosure
  · rw [register, List.map_append]
    exact List.nodup_append'.mpr ⟨slots, List.nodup_singleton _, List.disjoint_singleton.mpr newSlot⟩
  · rw [register]
    intro c hc
    rcases List.mem_append.mp hc with hc | hc
    · exact range c hc
    · rw [List.mem_singleton.mp hc]
      exact slotRange

/-- What an id added to the lists of a footprint makes of a list (R120). -/
theorem mem_addOverlays {id : Nat} {cells : List (Nat × Nat)} {overlays : List (List (List Nat))}
    {row : List (List Nat)} (hr : row ∈ addOverlays id cells overlays) {ids : List Nat} (hi : ids ∈ row) :
    ∃ g l, ∃ old ∈ overlays[g]?, ∃ was ∈ old[l]?, ids = if (g, l) ∈ cells then was ++ [id] else was := by
  obtain ⟨g, hg, rfl⟩ := List.mem_mapIdx.mp hr
  obtain ⟨l, hl, rfl⟩ := List.mem_mapIdx.mp hi
  refine ⟨g, l, overlays[g], by simp [hg], overlays[g][l], by simp [hl], ?_⟩
  simp only [List.contains_eq_mem, decide_eq_true_eq]

theorem ClosureUnit.overlay_eq {u : ClosureUnit} {g l : Nat} {row : List (List Nat)} {ids : List Nat}
    (hr : row ∈ u.overlays[g]?) (hi : ids ∈ row[l]?) : u.overlay g l = ids := by
  simp [ClosureUnit.overlay, List.getD_eq_getElem?_getD, Option.mem_def.mp hr, Option.mem_def.mp hi]

/-- An accepted road closure joins the lists of its footprint, which have room for it (R120, R121). -/
theorem State.withRoad_ordersWf {s : State} {id : Nat} {road : RoadClosure} (h : s.OrdersWf)
    (fresh : s.idHeldBy id = none) (room : s.closures.register.length < Config.closureRegisterSize)
    (space : ∀ x ∈ s.footprint road, (s.closures.overlay x.1 x.2).length < Config.overlaySize) :
    (s.withRoad id road).OrdersWf := by
  have ⟨_, _, _, _, _, lists, ranges⟩ := h
  have outline : (s.withRoad id road).closures.register.map Closure.outline =
      s.closures.register.map Closure.outline ++ [(id, s.closures.freeSlot, none)] := List.map_append
  have roadIds : (s.withRoad id road).closures.roadIds = s.closures.roadIds ++ [id] := by
    rw [ClosureUnit.roadIds_eq, outline, List.filterMap_append, ← ClosureUnit.roadIds_eq]
    rfl
  refine h.append room fresh rfl rfl ?_ ?_
  · intro row hr ids hi
    obtain ⟨g, l, old, hold, was, hwas, rfl⟩ := mem_addOverlays hr hi
    obtain ⟨length, once, held⟩ := lists old (List.mem_of_getElem? hold) was (List.mem_of_getElem? hwas)
    rw [roadIds]
    split
    next covered =>
      have short := space (g, l) covered
      rw [ClosureUnit.overlay_eq hold hwas] at short
      have new : id ∉ was := fun hm => by
        obtain ⟨c, hc, -, e⟩ := ClosureUnit.mem_roadIds.mp (held id hm)
        exact (State.idHeldBy_eq_none fresh).2 (e ▸ List.mem_map_of_mem hc)
      refine ⟨by rw [List.length_append]; exact short, ?_, ?_⟩
      · exact List.nodup_append'.mpr ⟨once, List.nodup_singleton _, List.disjoint_singleton.mpr new⟩
      · intro x hx
        rcases List.mem_append.mp hx with hx | hx
        · exact List.mem_append_left _ (held x hx)
        · exact List.mem_append_right _ hx
    · exact ⟨length, once, fun x hx => List.mem_append_left _ (held x hx)⟩
  · rw [ClosureUnit.ranges_eq, outline, List.filterMap_append, ← ClosureUnit.ranges_eq]
    simpa using ranges

/-- A cleared road closure leaves every list (R124). -/
theorem State.withoutRoad_ordersWf {s : State} {c : Closure} (h : s.OrdersWf) (held : c ∈ s.closures.register) :
    (s.withoutRoad c).OrdersWf := by
  have ⟨_, _, _, slots, _, lists, _⟩ := h
  refine h.sublist (List.Sublist.refl _) List.filter_sublist ?_
  intro row hr ids hi
  obtain ⟨old, hold, rfl⟩ := List.mem_map.mp hr
  obtain ⟨was, hwas, rfl⟩ := List.mem_map.mp hi
  obtain ⟨length, once, known⟩ := lists old hold was hwas
  refine ⟨(List.length_filter_le _ _).trans length, once.filter _, fun id hid => ?_⟩
  obtain ⟨hid, other⟩ := List.mem_filter.mp hid
  obtain ⟨d, hd, road, e⟩ := ClosureUnit.mem_roadIds.mp (known id hid)
  refine ClosureUnit.mem_roadIds.mpr ⟨d, List.mem_filter.mpr ⟨hd, decide_eq_true fun same => ?_⟩, road, e⟩
  cases Closure.eq_of_slot slots hd held same
  exact of_decide_eq_true other e.symm

/-- An accepted opening covers gantries that no shoulder order covers (R131, R133). -/
theorem State.withOpening_ordersWf {s : State} {id : Nat} {o : ShoulderOrder} (h : s.OrdersWf)
    (fresh : s.idHeldBy id = none) (room : s.closures.register.length < Config.closureRegisterSize)
    (free : s.overlapping o.firstGantry o.lastGantry = none) : (s.withOpening id o).OrdersWf := by
  have ⟨_, _, _, _, _, lists, ranges⟩ := h
  have outline : (s.withOpening id o).closures.register.map Closure.outline =
      s.closures.register.map Closure.outline ++
        [(id, s.closures.freeSlot, some (o.firstGantry, o.lastGantry))] := List.map_append
  refine h.append room fresh rfl rfl (ListsWf.mono lists ?_) ?_
  · rw [ClosureUnit.roadIds_eq (s.withOpening id o).closures, outline, List.filterMap_append,
      ← ClosureUnit.roadIds_eq]
    exact List.subset_append_left _ _
  · rw [ClosureUnit.ranges_eq, outline, List.filterMap_append, ← ClosureUnit.ranges_eq]
    refine List.pairwise_append.mpr ⟨ranges, List.pairwise_singleton _ _, fun x hx y hy => ?_⟩
    rw [List.mem_singleton.mp hy]
    exact State.overlapping_eq_none free x hx

/-- The end of a closing takes a shoulder order out of the register (R138). -/
theorem State.withoutShoulder_ordersWf {s : State} {slot : Nat} {o : ShoulderOrder} (h : s.OrdersWf)
    (held : (slot, o) ∈ s.closures.shoulderOrders) :
    (s.setRegister (s.closures.register.filter (fun c => decide (c.slot ≠ slot)))).OrdersWf := by
  have ⟨_, _, _, slots, _, lists, _⟩ := h
  refine h.sublist (List.Sublist.refl _) List.filter_sublist (ListsWf.mono lists fun id hid => ?_)
  obtain ⟨d, hd, ⟨r, road⟩, e⟩ := ClosureUnit.mem_roadIds.mp hid
  obtain ⟨c, hc, here, body⟩ := ClosureUnit.mem_shoulderOrders.mp held
  refine ClosureUnit.mem_roadIds.mpr ⟨d, List.mem_filter.mpr ⟨hd, decide_eq_true fun same => ?_⟩, ⟨r, road⟩, e⟩
  cases Closure.eq_of_slot slots hd hc (same.trans here.symm)
  exact absurd (road.symm.trans body) nofun

theorem State.withShoulder_ordersWf {s : State} {slot : Nat} {o o' : ShoulderOrder} (h : s.OrdersWf)
    (held : (slot, o) ∈ s.closures.shoulderOrders) (first : o'.firstGantry = o.firstGantry)
    (last : o'.lastGantry = o.lastGantry) : (s.withShoulder slot o').OrdersWf := by
  have ⟨_, _, _, slots, _, _, _⟩ := h
  exact h.congr rfl (putShoulder_outline held slots first last) rfl

theorem ShoulderOrder.Reread.first {o o' : ShoulderOrder} (h : o.Reread o') : o'.firstGantry = o.firstGantry := by
  cases h <;> rfl

theorem ShoulderOrder.Reread.last {o o' : ShoulderOrder} (h : o.Reread o') : o'.lastGantry = o.lastGantry := by
  cases h <;> rfl

theorem Move.keeps_orders {s t : State} (m : Move s t) (k : s.OrdersWf) : t.OrdersWf := by
  obtain ⟨few, fewer, ids, slots, range, lists, ranges⟩ := k
  have k : s.OrdersWf := ⟨few, fewer, ids, slots, range, lists, ranges⟩
  have empty : ListsWf ClosureUnit.reset.overlays ClosureUnit.reset.roadIds := by decide
  cases m with
  | wasReset => exact reset_ordersWf
  | unloaded | restarted => exact k.sublist (List.nil_sublist _) (List.nil_sublist _) empty
  | measured => exact k.sublist (List.nil_sublist _) (List.Sublist.refl _) lists
  | limitAccepted o configured fresh room =>
    obtain ⟨newLimit, newClosure⟩ := State.idHeldBy_eq_none fresh
    refine ⟨by rw [List.length_append]; exact room, fewer, ?_, slots, range, lists, ranges⟩
    rw [List.map_append, List.append_assoc, List.map_singleton]
    refine List.nodup_middle.mpr (List.nodup_cons.mpr ⟨fun h => ?_, ids⟩)
    exact (List.mem_append.mp h).elim newLimit newClosure
  | limitCleared => exact k.sublist List.filter_sublist (List.Sublist.refl _) lists
  | roadAccepted id road configured fresh room known settled space =>
    exact State.requestPass_keeps (P := State.OrdersWf) _ fun _ => State.withRoad_ordersWf k fresh room space
  | roadCleared c r held => exact State.withoutRoad_ordersWf k held
  | openingAccepted id o configured fresh room range known free => exact State.withOpening_ordersWf k fresh room free
  | reread slot o o' held change => exact State.withShoulder_ordersWf k held change.first change.last
  | openingEnded slot o held => exact State.withShoulder_ordersWf k held rfl rfl
  | openingMoved slot o g p held => exact State.withShoulder_ordersWf (o := o) k held rfl rfl
  | closingStarted slot o h m held =>
    exact State.requestPass_keeps (P := State.OrdersWf) _ fun _ => State.withShoulder_ordersWf (o := o) k held rfl rfl
  | closingMoved slot o f h m held =>
    exact State.requestPass_keeps (P := State.OrdersWf) _ fun _ => State.withShoulder_ordersWf (o := o) k held rfl rfl
  | closingEnded slot o f held =>
    exact State.requestPass_keeps (P := State.OrdersWf) _ fun _ => State.withoutShoulder_ordersWf k held
  | holdsTicked => exact k.congr rfl (tick_outline _) rfl
  | started | activated | passRequested => exact State.requestPass_keeps (P := State.OrdersWf) _ fun _ => k
  | judged g r => exact State.judged_keeps (P := State.OrdersWf) g r fun _ => k
  | _ => exact k

theorem State.composed_ordersWf {s : State} (g : Nat) (k : s.OrdersWf) : (s.composed g).OrdersWf := by
  obtain ⟨q, e, -⟩ := s.composed_spec g
  rw [e]
  exact k.congr rfl (s.settledRegister_outline g) rfl

/-- Settles O50: an acceptance adds a fresh id in a free slot, a clearing takes an order out of the register and of
every list, and every other change of the register keeps the outlines of its entries. -/
theorem orderRegistersLaw : Obligations.OrderRegistersLaw := by
  unfold Obligations.OrderRegistersLaw
  intro s t orders h
  exact step_keeps (fun _ _ m k => m.keeps_orders k) (fun s g _ k => State.composed_ordersWf g k) h orders

end Sys2Proof.Machine
end

section
/-! SUPPORT. The laws of the places and of the Lane Overlay Lists: what a settling and a replaced order leave of the
register, and that every step keeps the orders on gantries of the segment and the lists equal to the footprints
(R106, R119, R120, R125). -/

namespace Sys2Proof.Machine

/-! ## The register after a change -/

/-- The road closure that an entry holds. -/
def Closure.road? (c : Closure) : Option RoadClosure :=
  match c.body with
  | .road r => some r
  | .shoulder _ => none

theorem filterMap_eq_of_map_eq {α β : Type} {f f' : α → Option β} {k l : List α} (h : k.map f = l.map f') :
    k.filterMap f = l.filterMap f' := by
  have := congrArg (List.filterMap id) h
  rwa [List.filterMap_map, List.filterMap_map] at this

theorem ClosureUnit.roads_eq (u : ClosureUnit) : u.roads = u.register.filterMap Closure.road? := rfl

/-- The shoulder orders after one is replaced in its slot. -/
theorem mem_putShoulder {u v : ClosureUnit} {slot : Nat} {o' : ShoulderOrder}
    (register : v.register = putShoulder u.register slot o') {x : Nat × ShoulderOrder} (hx : x ∈ v.shoulderOrders) :
    x = (slot, o') ∨ x.1 ≠ slot ∧ x ∈ u.shoulderOrders := by
  obtain ⟨n, y⟩ := x
  obtain ⟨c, hc, rfl, body⟩ := ClosureUnit.mem_shoulderOrders.mp hx
  rw [register, putShoulder, List.mem_map] at hc
  obtain ⟨d, hd, rfl⟩ := hc
  by_cases hs : d.slot = slot
  · rw [if_pos hs] at body ⊢
    cases body
    exact .inl (by rw [← hs])
  · rw [if_neg hs] at body ⊢
    exact .inr ⟨hs, ClosureUnit.mem_shoulderOrders.mpr ⟨d, hd, rfl, body⟩⟩

theorem roads_putShoulder_subset {u v : ClosureUnit} {slot : Nat} {o' : ShoulderOrder}
    (register : v.register = putShoulder u.register slot o') : v.roads ⊆ u.roads := by
  intro r hr
  obtain ⟨c, hc, body⟩ := ClosureUnit.mem_roads.mp hr
  rw [register, putShoulder, List.mem_map] at hc
  obtain ⟨d, hd, rfl⟩ := hc
  by_cases hs : d.slot = slot
  · rw [if_pos hs] at body
    cases body
  · rw [if_neg hs] at body
    exact ClosureUnit.mem_roads.mpr ⟨d, hd, body⟩

theorem roads_tick {u v : ClosureUnit} (register : v.register = u.register.map Closure.tick) : v.roads = u.roads := by
  rw [ClosureUnit.roads_eq, ClosureUnit.roads_eq, register]
  refine filterMap_eq_of_map_eq ?_
  rw [List.map_map]
  refine List.map_congr_left fun c _ => ?_
  rcases c with ⟨id, slot, r | o⟩ <;> rfl

theorem shoulderOrders_tick {u v : ClosureUnit} (register : v.register = u.register.map Closure.tick) :
    v.shoulderOrders = u.shoulderOrders.map (fun x => (x.1, { x.2 with mergeHold := tickTimer x.2.mergeHold })) := by
  unfold ClosureUnit.shoulderOrders
  rw [register, List.filterMap_map, List.map_filterMap]
  refine List.filterMap_congr fun c _ => ?_
  rcases c with ⟨id, slot, r | o⟩ <;> rfl

theorem State.settledRegister_roads (g : Nat) (s : State) :
    (s.setRegister (s.settledRegister g)).closures.roads =
      s.closures.roads.map (fun r => if r.site = g then s.settleRoad r else r) := by
  unfold ClosureUnit.roads State.settledRegister
  rw [List.map_filterMap, State.setRegister, List.filterMap_map]
  refine List.filterMap_congr fun c _ => ?_
  rcases c with ⟨id, slot, r | o⟩
  · by_cases h : r.site = g
    · simp [h]
    · simp [h]
  · rfl

theorem State.settledRegister_shoulderOrders (g : Nat) (s : State) :
    (s.setRegister (s.settledRegister g)).closures.shoulderOrders = s.closures.shoulderOrders := by
  unfold ClosureUnit.shoulderOrders State.settledRegister
  rw [State.setRegister, List.filterMap_map]
  refine List.filterMap_congr fun c _ => ?_
  rcases c with ⟨id, slot, r | o⟩
  · by_cases h : r.site = g
    · simp [h]
    · simp [h]
  · rfl

/-- A settled closure keeps its site, lanes and cap; it is signed at a fit gantry at most two upstream of its site, or at
its site as unprotected (R125). -/
theorem State.settleRoad_spec (r : RoadClosure) (s : State) : ∃ e u, s.settleRoad r =
    { r with effective := e, unprotected := u } ∧ (e ≤ r.site ∧ r.site ≤ e + 2) ∧ (u = false → s.fit r e = true) := by
  unfold State.settleRoad
  split
  next e found =>
    have near := List.mem_of_find?_eq_some found
    refine ⟨e, false, rfl, ?_, fun _ => List.find?_some (p := fun g => s.fit r g) found⟩
    simp only [candidateSites, List.mem_append, List.mem_singleton] at near
    rcases near with (near | near) | near
    · omega
    · split at near
      · rw [List.mem_singleton] at near
        omega
      · cases near
    · split at near
      · rw [List.mem_singleton] at near
        omega
      · cases near
  · exact ⟨r.site, true, rfl, ⟨le_rfl, Nat.le_add_right _ _⟩, nofun⟩

/-! ## Places (R106, R119, R125, R170) -/

/-- The places of the orders, where a state holds no new order and the segment has its gantries as before. -/
theorem State.PlacesWf.mono {s t : State} (h : s.PlacesWf)
    (empty : t.configured = false → t.limitOrders = [] ∧ t.closures.register = [])
    (limits : t.limitOrders ⊆ s.limitOrders) (roads : t.closures.roads ⊆ s.closures.roads)
    (shoulders : t.closures.shoulderOrders ⊆ s.closures.shoulderOrders) (count : t.gantryCount = s.gantryCount) :
    t.PlacesWf := by
  obtain ⟨-, l, r, o⟩ := h
  refine ⟨empty, fun x hx => ?_, fun x hx => ?_, fun x hx => ?_⟩
  · exact count ▸ l x (limits hx)
  · exact count ▸ r x (roads hx)
  · exact count ▸ o x (shoulders hx)

/-- A state that holds no order. -/
theorem State.PlacesWf.of_empty {t : State} (limits : t.limitOrders = []) (register : t.closures.register = []) :
    t.PlacesWf := by
  refine ⟨fun _ => ⟨limits, register⟩, ?_, ?_, ?_⟩
  · rw [limits]
    nofun
  · rw [ClosureUnit.roads_eq, register]
    nofun
  · rw [ClosureUnit.shoulderOrders, register]
    nofun

/-- A shoulder order replaced in its slot, in the same range, keeps the places. -/
theorem State.PlacesWf.replace {s t : State} {slot : Nat} {o o' : ShoulderOrder} (h : s.PlacesWf)
    (held : (slot, o) ∈ s.closures.shoulderOrders) (configured : t.configured = s.configured)
    (limits : t.limitOrders = s.limitOrders)
    (register : t.closures.register = putShoulder s.closures.register slot o') (count : t.gantryCount = s.gantryCount)
    (first : o'.firstGantry = o.firstGantry) (last : o'.lastGantry = o.lastGantry) : t.PlacesWf := by
  obtain ⟨empty, l, r, shoulders⟩ := h
  refine ⟨fun c => ?_, by rw [limits, count]; exact l, fun x hx => ?_, fun x hx => ?_⟩
  · obtain ⟨noLimits, noClosures⟩ := empty (configured ▸ c)
    rw [limits, register, noClosures]
    exact ⟨noLimits, rfl⟩
  · rw [count]
    exact r x (roads_putShoulder_subset register hx)
  · rw [count]
    rcases mem_putShoulder register hx with rfl | ⟨-, hx⟩
    · rw [first, last]
      exact shoulders _ held
    · exact shoulders x hx

theorem ClosureUnit.subset_of_register {u v : ClosureUnit} (h : v.register ⊆ u.register) :
    v.roads ⊆ u.roads ∧ v.shoulderOrders ⊆ u.shoulderOrders := by
  refine ⟨fun r hr => ?_, fun x hx => ?_⟩
  · obtain ⟨c, hc, body⟩ := ClosureUnit.mem_roads.mp hr
    exact ClosureUnit.mem_roads.mpr ⟨c, h hc, body⟩
  · obtain ⟨c, hc, slot, body⟩ := ClosureUnit.mem_shoulderOrders.mp hx
    exact ClosureUnit.mem_shoulderOrders.mpr ⟨c, h hc, slot, body⟩

/-- Orders taken out of the registers leave the places as they are. -/
theorem State.PlacesWf.sublist {s t : State} (h : s.PlacesWf) (configured : t.configured = s.configured)
    (limits : t.limitOrders ⊆ s.limitOrders) (register : t.closures.register ⊆ s.closures.register)
    (count : t.gantryCount = s.gantryCount) : t.PlacesWf := by
  obtain ⟨roads, shoulders⟩ := ClosureUnit.subset_of_register register
  refine h.mono (fun c => ?_) limits roads shoulders count
  obtain ⟨noLimits, noClosures⟩ := h.1 (configured ▸ c)
  exact ⟨List.subset_nil.mp (noLimits ▸ limits), List.subset_nil.mp (noClosures ▸ register)⟩

/-- Between modes outside UNCONFIGURED the orders stand. -/
theorem State.PlacesWf.of_mode {s t : State} (h : s.PlacesWf) (now : t.mode ≠ .unconfigured)
    (limits : t.limitOrders = s.limitOrders) (closures : t.closures = s.closures)
    (count : t.gantryCount = s.gantryCount) : t.PlacesWf :=
  h.mono (fun c => absurd (State.configured_of_mode now) (by simp [c])) (limits ▸ List.Subset.refl _) (closures ▸ List.Subset.refl _)
    (closures ▸ List.Subset.refl _) count

theorem ClosureUnit.roads_append {u v : ClosureUnit} {c : Closure} (register : v.register = u.register ++ [c]) :
    v.roads = u.roads ++ c.road?.toList := by
  rw [ClosureUnit.roads_eq, ClosureUnit.roads_eq, register, List.filterMap_append]
  cases h : c.road? <;> simp [h]

theorem ClosureUnit.shoulderOrders_append_shoulder {u v : ClosureUnit} {id slot : Nat} {o : ShoulderOrder}
    (register : v.register = u.register ++ [{ id := id, slot := slot, body := .shoulder o }]) :
    v.shoulderOrders = u.shoulderOrders ++ [(slot, o)] := by
  unfold ClosureUnit.shoulderOrders
  rw [register, List.filterMap_append]
  rfl

theorem ClosureUnit.shoulderOrders_append_road {u v : ClosureUnit} {id slot : Nat} {r : RoadClosure}
    (register : v.register = u.register ++ [{ id := id, slot := slot, body := .road r }]) :
    v.shoulderOrders = u.shoulderOrders := by
  unfold ClosureUnit.shoulderOrders
  rw [register, List.filterMap_append]
  exact List.append_nil _

theorem State.withRoad_placesWf {s : State} {id : Nat} {road : RoadClosure} (h : s.PlacesWf)
    (configured : s.configured = true) (known : road.site < s.gantryCount) (settled : road.effective = road.site) :
    (s.withRoad id road).PlacesWf := by
  obtain ⟨-, limits, roads, shoulders⟩ := h
  refine ⟨fun c => absurd (configured.symm.trans c) (by decide), limits, fun r hr => ?_, ?_⟩
  · rw [ClosureUnit.roads_append (u := s.closures) rfl] at hr
    rcases List.mem_append.mp hr with hr | hr
    · exact roads r hr
    · rw [List.mem_singleton.mp hr]
      exact ⟨known, settled.le, settled ▸ Nat.le_add_right _ _⟩
  · rw [ClosureUnit.shoulderOrders_append_road (u := s.closures) rfl]
    exact shoulders

theorem State.withOpening_placesWf {s : State} {id : Nat} {o : ShoulderOrder} (h : s.PlacesWf)
    (configured : s.configured = true) (range : o.firstGantry ≤ o.lastGantry) (known : o.lastGantry < s.gantryCount) :
    (s.withOpening id o).PlacesWf := by
  obtain ⟨-, limits, roads, shoulders⟩ := h
  refine ⟨fun c => absurd (configured.symm.trans c) (by decide), limits, ?_, fun x hx => ?_⟩
  · rw [ClosureUnit.roads_append (u := s.closures) rfl]
    show ∀ r ∈ s.closures.roads ++ [], _
    rw [List.append_nil]
    exact roads
  · rw [ClosureUnit.shoulderOrders_append_shoulder (u := s.closures) rfl] at hx
    rcases List.mem_append.mp hx with hx | hx
    · exact shoulders x hx
    · rw [List.mem_singleton.mp hx]
      exact ⟨range, known⟩

theorem Move.keeps_places {s t : State} (m : Move s t) (k : s.PlacesWf) : t.PlacesWf := by
  cases m with
  | wasReset => exact reset_placesWf
  | unloaded | restarted => exact .of_empty rfl rfl
  | loaded t unconfigured =>
    obtain ⟨limits, register⟩ := k.1 (State.not_configured_of_mode unconfigured)
    exact .of_empty limits register
  | measured unreset unconfigured => exact .of_empty rfl (k.1 unconfigured).2
  | started | activated =>
    exact State.requestPass_keeps (P := State.PlacesWf) _ fun _ => k.of_mode nofun rfl rfl rfl
  | stopped => exact k.of_mode nofun rfl rfl rfl
  | limitAccepted o configured fresh room range known =>
    obtain ⟨-, limits, rest⟩ := k
    refine ⟨fun c => absurd (configured.symm.trans c) (by decide), fun x hx => ?_, rest⟩
    rcases List.mem_append.mp hx with hx | hx
    · exact limits x hx
    · rw [List.mem_singleton.mp hx]
      exact ⟨range, known⟩
  | limitCleared => exact k.sublist rfl List.filter_sublist.subset (List.Subset.refl _) rfl
  | roadAccepted id road configured fresh room known settled =>
    exact State.requestPass_keeps (P := State.PlacesWf) _ fun _ => State.withRoad_placesWf k configured known settled
  | roadCleared => exact k.sublist rfl (List.Subset.refl _) List.filter_sublist.subset rfl
  | openingAccepted id o configured fresh room range known =>
    exact State.withOpening_placesWf k configured range known
  | reread slot o o' held change => exact k.replace held rfl rfl rfl rfl change.first change.last
  | openingEnded slot o held => exact k.replace held rfl rfl rfl rfl rfl rfl
  | openingMoved slot o g p held => exact k.replace (o := o) held rfl rfl rfl rfl rfl rfl
  | closingStarted slot o h m held | closingMoved slot o f h m held =>
    exact State.requestPass_keeps (P := State.PlacesWf) _ fun _ => k.replace (o := o) held rfl rfl rfl rfl rfl rfl
  | closingEnded slot o f held =>
    exact State.requestPass_keeps (P := State.PlacesWf) _ fun _ =>
      k.sublist rfl (List.Subset.refl _) List.filter_sublist.subset rfl
  | holdsTicked =>
    obtain ⟨empty, limits, roads, shoulders⟩ := k
    refine ⟨fun c => ?_, limits, ?_, ?_⟩
    · obtain ⟨noLimits, noClosures⟩ := empty c
      exact ⟨noLimits, by rw [State.setRegister, noClosures]; rfl⟩
    · rw [roads_tick (u := s.closures) rfl]
      exact roads
    · rw [shoulderOrders_tick (u := s.closures) rfl]
      intro x hx
      obtain ⟨y, hy, rfl⟩ := List.mem_map.mp hx
      exact shoulders y hy
  | passRequested => exact State.requestPass_keeps (P := State.PlacesWf) _ fun _ => k
  | judged g r => exact State.judged_keeps (P := State.PlacesWf) g r fun _ => k
  | _ => exact k

theorem State.composed_placesWf {s : State} (g : Nat) (k : s.PlacesWf) : (s.composed g).PlacesWf := by
  obtain ⟨q, e, -⟩ := s.composed_spec g
  rw [e]
  obtain ⟨empty, limits, roads, shoulders⟩ := k
  refine ⟨fun c => ?_, limits, fun r hr => ?_, ?_⟩
  · obtain ⟨noLimits, noClosures⟩ := empty c
    exact ⟨noLimits, by
      show s.settledRegister g = []
      rw [State.settledRegister, noClosures]
      rfl⟩
  · change r ∈ (s.setRegister (s.settledRegister g)).closures.roads at hr
    rw [State.settledRegister_roads, List.mem_map] at hr
    obtain ⟨old, hold, rfl⟩ := hr
    split
    · obtain ⟨e, u, settled, near, -⟩ := s.settleRoad_spec old
      rw [settled]
      exact ⟨(roads old hold).1, near⟩
    · exact roads old hold
  · show ∀ x ∈ (s.setRegister (s.settledRegister g)).closures.shoulderOrders, _
    rw [State.settledRegister_shoulderOrders]
    exact shoulders

/-- Settles O51: orders are accepted outside UNCONFIGURED on gantries of the segment, every way into UNCONFIGURED and
every change of the tables empties the registers, and a settling stays within two gantries of the site. -/
theorem orderPlacesLaw : Obligations.OrderPlacesLaw := by
  unfold Obligations.OrderPlacesLaw
  intro s t _ _ places h
  exact step_keeps (fun _ _ m k => m.keeps_places k) (fun s g _ k => State.composed_placesWf g k) h places

/-! ## The Lane Overlay Lists (R120) -/

/-- The id of an entry whose footprint, under some tables, covers a gantry-lane. -/
def State.covering (g l : Nat) (s : State) (c : Closure) : Option Nat :=
  match c.body with
  | .road r => if (g, l) ∈ s.footprint r then some c.id else none
  | .shoulder _ => none

theorem State.footprintIds_eq (g l : Nat) (s : State) :
    s.footprintIds g l = s.closures.register.filterMap (s.covering g l) := rfl

/-- The law of the lists reads the lists, and of the register what its entries cover. -/
theorem State.OverlayWf.congr {s t : State} (h : s.OverlayWf) (overlays : t.closures.overlays = s.closures.overlays)
    (covers : ∀ g l, t.closures.register.map (t.covering g l) = s.closures.register.map (s.covering g l)) :
    t.OverlayWf := by
  intro g hg l hl
  rw [ClosureUnit.overlay, overlays, State.footprintIds_eq, filterMap_eq_of_map_eq (covers g l)]
  exact h g hg l hl

theorem State.OverlayWf.of_empty {t : State} (overlays : t.closures.overlays = ClosureUnit.reset.overlays)
    (register : t.closures.register = []) : t.OverlayWf := by
  intro g hg l hl
  rw [ClosureUnit.overlay, overlays, State.footprintIds_eq, register]
  exact reset_overlayWf g hg l hl

theorem ClosureUnit.overlay_add {u v : ClosureUnit} {id g l : Nat} {cells : List (Nat × Nat)}
    (overlays : v.overlays = addOverlays id cells u.overlays) (shape : u.ShapeWf) (hg : g < Config.maxGantries)
    (hl : l < Config.maxLanes) :
    v.overlay g l = if (g, l) ∈ cells then u.overlay g l ++ [id] else u.overlay g l := by
  obtain ⟨-, gantries, lanes⟩ := shape
  have inside : g < u.overlays.length := gantries ▸ hg
  have across : l < u.overlays[g].length := lanes _ (List.getElem_mem inside) ▸ hl
  have before : u.overlay g l = u.overlays[g][l] :=
    ClosureUnit.overlay_eq (List.getElem?_eq_getElem inside) (List.getElem?_eq_getElem across)
  rw [before]
  simp [ClosureUnit.overlay, overlays, addOverlays, List.getD_eq_getElem?_getD, inside, across]

theorem ClosureUnit.overlay_drop {u v : ClosureUnit} {id : Nat} (overlays : v.overlays = dropOverlays id u.overlays)
    (g l : Nat) : v.overlay g l = (u.overlay g l).filter (fun x => decide (x ≠ id)) := by
  simp only [ClosureUnit.overlay, overlays, dropOverlays, List.getD_eq_getElem?_getD, List.getElem?_map]
  cases u.overlays[g]? with
  | none => rfl
  | some row =>
    simp only [Option.map_some, Option.getD_some, List.getElem?_map]
    cases row[l]? <;> rfl

theorem State.withRoad_overlayWf {s : State} {id : Nat} {road : RoadClosure} (h : s.OverlayWf)
    (shape : s.closures.ShapeWf) : (s.withRoad id road).OverlayWf := by
  intro g hg l hl
  rw [ClosureUnit.overlay_add (u := s.closures) rfl shape hg hl, h g hg l hl, State.footprintIds_eq]
  show _ = (s.closures.register ++ [_]).filterMap (s.covering g l)
  rw [List.filterMap_append, ← State.footprintIds_eq]
  by_cases covered : (g, l) ∈ s.footprint road
  · rw [if_pos covered]
    simp [State.covering, covered]
  · rw [if_neg covered]
    simp [State.covering, covered]

theorem State.withoutRoad_overlayWf {s : State} {c : Closure} (h : s.OverlayWf) (orders : s.OrdersWf)
    (held : c ∈ s.closures.register) : (s.withoutRoad c).OverlayWf := by
  obtain ⟨-, -, ids, slots, -, -, -⟩ := orders
  intro g hg l hl
  rw [ClosureUnit.overlay_drop (u := s.closures) rfl, h g hg l hl, State.footprintIds_eq, State.footprintIds_eq]
  show _ = (s.closures.register.filter _).filterMap (s.covering g l)
  rw [List.filter_filterMap, List.filterMap_filter]
  refine List.filterMap_congr fun d hd => ?_
  have apart : d.id = c.id ↔ d.slot = c.slot := by
    constructor
    · exact fun e => congrArg _ (Closure.eq_of_id (List.nodup_append.mp ids).2.1 hd held e)
    · exact fun e => congrArg _ (Closure.eq_of_slot slots hd held e)
  have named : ∀ n ∈ s.covering g l d, n = d.id := by
    intro n hn
    unfold State.covering at hn
    split at hn
    · split at hn
      · exact (Option.some.inj hn).symm
      · cases hn
    · cases hn
  cases e : s.covering g l d with
  | none => simp
  | some n =>
    obtain rfl := named n e
    by_cases same : d.slot = c.slot
    · simp [same, apart.mpr same]
    · simp [same, mt apart.mp same]

/-- The covering of a gantry-lane does not change with the order that a shoulder entry holds. -/
theorem State.withShoulder_overlayWf {s t : State} {slot : Nat} {o o' : ShoulderOrder} (h : s.OverlayWf)
    (orders : s.OrdersWf) (held : (slot, o) ∈ s.closures.shoulderOrders)
    (register : t.closures.register = putShoulder s.closures.register slot o')
    (overlays : t.closures.overlays = s.closures.overlays) (tables : t.tables = s.tables) : t.OverlayWf := by
  obtain ⟨-, -, -, slots, -, -, -⟩ := orders
  refine h.congr overlays fun g l => ?_
  have covers : t.covering g l = s.covering g l := by
    funext c
    unfold State.covering State.footprint
    rw [tables]
  rw [covers, register]
  exact putShoulder_map _ held slots fun _ => rfl

theorem Move.keeps_overlays {s t : State} (m : Move s t) (shape : s.ShapeWf) (orders : s.OrdersWf) (places : s.PlacesWf)
    (k : s.OverlayWf) : t.OverlayWf := by
  cases m with
  | wasReset | unloaded | restarted => exact .of_empty rfl rfl
  | loaded t unconfigured =>
    have none := (places.1 (State.not_configured_of_mode unconfigured)).2
    refine k.congr rfl fun g l => ?_
    show s.closures.register.map _ = _
    rw [none]
    rfl
  | roadAccepted id road =>
    obtain ⟨-, -, -, -, overlays⟩ := shape
    exact State.requestPass_keeps (P := State.OverlayWf) _ fun _ => State.withRoad_overlayWf k overlays
  | roadCleared c r held => exact State.withoutRoad_overlayWf k orders held
  | openingAccepted id o =>
    intro g hg l hl
    rw [State.footprintIds_eq]
    show _ = (s.closures.register ++ [_]).filterMap (s.covering g l)
    rw [List.filterMap_append]
    exact (k g hg l hl).trans (List.append_nil _).symm
  | reread slot o o' held => exact State.withShoulder_overlayWf k orders held rfl rfl rfl
  | openingEnded slot o held => exact State.withShoulder_overlayWf k orders held rfl rfl rfl
  | openingMoved slot o g p held => exact State.withShoulder_overlayWf (o := o) k orders held rfl rfl rfl
  | closingStarted slot o h m held | closingMoved slot o f h m held =>
    exact State.requestPass_keeps (P := State.OverlayWf) _ fun _ =>
      State.withShoulder_overlayWf (o := o) k orders held rfl rfl rfl
  | closingEnded slot o f held =>
    refine State.requestPass_keeps (P := State.OverlayWf) _ fun _ => ?_
    obtain ⟨-, -, -, slots, -, -, -⟩ := orders
    intro g hg l hl
    rw [State.footprintIds_eq]
    show _ = (s.closures.register.filter _).filterMap (s.covering g l)
    refine (k g hg l hl).trans ?_
    rw [State.footprintIds_eq, List.filterMap_filter]
    refine List.filterMap_congr fun d hd => ?_
    by_cases same : d.slot = slot
    · obtain ⟨c, hc, here, body⟩ := ClosureUnit.mem_shoulderOrders.mp held
      rw [Closure.eq_of_slot slots hd hc (same.trans here.symm)]
      simp [here, State.covering, body]
    · simp [same]
  | holdsTicked =>
    refine k.congr rfl fun g l => ?_
    show (s.closures.register.map Closure.tick).map _ = _
    rw [List.map_map]
    refine List.map_congr_left fun c _ => ?_
    rcases c with ⟨id, slot, r | o⟩ <;> rfl
  | started | activated | passRequested => exact State.requestPass_keeps (P := State.OverlayWf) _ fun _ => k
  | judged g r => exact State.judged_keeps (P := State.OverlayWf) g r fun _ => k
  | _ => exact k

theorem State.footprint_congr {r r' : RoadClosure} (s : State) (site : r'.site = r.site) (lanes : r'.lanes = r.lanes) :
    s.footprint r' = s.footprint r := by
  unfold State.footprint RoadClosure.lanesAt
  rw [site, lanes]

theorem State.composed_overlayWf {s : State} (g : Nat) (k : s.OverlayWf) : (s.composed g).OverlayWf := by
  obtain ⟨q, e, -⟩ := s.composed_spec g
  rw [e]
  refine k.congr rfl fun x l => ?_
  show (s.settledRegister g).map (s.covering x l) = _
  unfold State.settledRegister
  rw [List.map_map]
  refine List.map_congr_left fun c _ => ?_
  rcases c with ⟨id, slot, r | o⟩
  · by_cases here : r.site = g
    · obtain ⟨e, u, settled, -⟩ := s.settleRoad_spec r
      have foot := s.footprint_congr (r := r) (r' := s.settleRoad r) (by rw [settled]) (by rw [settled])
      simp [here, State.covering, foot]
    · simp [here]
  · rfl

/-- What the laws of the lists and of the shoulder build on. -/
abbrev State.GroundWf (s : State) : Prop := s.ShapeWf ∧ s.OrdersWf ∧ s.PlacesWf

theorem Move.keeps_ground {s t : State} (m : Move s t) (k : s.GroundWf) : t.GroundWf := by
  obtain ⟨shape, orders, places⟩ := k
  exact ⟨m.keeps_shape shape, m.keeps_orders orders, m.keeps_places places⟩

theorem State.composed_groundWf {s : State} (g : Nat) (k : s.GroundWf) : (s.composed g).GroundWf := by
  obtain ⟨shape, orders, places⟩ := k
  exact ⟨State.composed_shapeWf g shape, State.composed_ordersWf g orders, State.composed_placesWf g places⟩

/-- Settles O52: an accepted closure joins the lists of its footprint at their ends, a cleared one leaves them, and no
other change of the register moves a footprint. -/
theorem overlayListsLaw : Obligations.OverlayListsLaw := by
  unfold Obligations.OverlayListsLaw
  intro s t _ shape _ orders places overlays h
  have keep := step_keeps (P := fun s => s.GroundWf ∧ s.OverlayWf)
    (fun s t m k => by
      obtain ⟨⟨shape, orders, places⟩, overlays⟩ := k
      exact ⟨m.keeps_ground ⟨shape, orders, places⟩, m.keeps_overlays shape orders places overlays⟩)
    (fun s g _ k => ⟨State.composed_groundWf g k.1, State.composed_overlayWf g k.2⟩) h
    ⟨⟨shape, orders, places⟩, overlays⟩
  exact keep.2

end Sys2Proof.Machine
end

section
/-! SUPPORT. The law of the shoulder: what a replaced shoulder order does to the shoulder states, and that every step
keeps each gantry's shoulder state as its order has set it (R130, R133 to R138). -/

namespace Sys2Proof.Machine

/-! ## Shoulder states (R119) -/

theorem State.setShoulder_shoulder (g h : Nat) (x : ShoulderState) (s : State) :
    (s.setShoulder g x).shoulder h = if h = g ∧ g < s.closures.shoulders.length then x else s.shoulder h := by
  simp only [State.shoulder, State.setShoulder, List.getD_eq_getElem?_getD, List.getElem?_set]
  by_cases e : g = h
  · subst e
    by_cases inside : g < s.closures.shoulders.length
    · simp [inside]
    · simp [inside]
  · simp [e, Ne.symm e]

theorem State.setShoulder_shoulder_self {g : Nat} (x : ShoulderState) {s : State} (h : g < s.closures.shoulders.length) :
    (s.setShoulder g x).shoulder g = x := by
  rw [State.setShoulder_shoulder, if_pos ⟨rfl, h⟩]

theorem State.setShoulder_shoulder_ne {g h : Nat} (x : ShoulderState) (s : State) (ne : h ≠ g) :
    (s.setShoulder g x).shoulder h = s.shoulder h := by
  rw [State.setShoulder_shoulder, if_neg fun e => ne e.1]

/-- A gantry beyond the records has no shoulder state but CLOSED. -/
theorem State.lt_of_opened {s : State} {g : Nat} (h : s.shoulder g = .opened) : g < s.closures.shoulders.length := by
  by_contra out
  rw [State.shoulder, List.getD_eq_default _ _ (Nat.le_of_not_lt out)] at h
  cases h

/-- The most upstream OPEN gantry from one on, and what lies before it in the range. -/
theorem State.firstOpen_some {s : State} {low h : Nat} {o : ShoulderOrder} (found : s.firstOpen low o = some h) :
    low ≤ h ∧ h ≤ o.lastGantry ∧ s.shoulder h = .opened ∧ ∀ x, low ≤ x → x < h → s.shoulder x ≠ .opened := by
  unfold State.firstOpen at found
  obtain ⟨opened, before, after, e, closed⟩ := List.find?_eq_some_iff_append.mp found
  have inside : h ∈ List.range' low (o.lastGantry + 1 - low) := by
    rw [e]
    exact List.mem_append_right _ List.mem_cons_self
  rw [List.mem_range'_1] at inside
  refine ⟨inside.1, by omega, of_decide_eq_true opened, fun x lx xh => ?_⟩
  have hx : x ∈ List.range' low (o.lastGantry + 1 - low) := by
    rw [List.mem_range'_1]
    omega
  have sorted : (List.range' low (o.lastGantry + 1 - low)).Pairwise (· < ·) := List.pairwise_lt_range'
  rw [e] at hx sorted
  rcases List.mem_append.mp hx with hx | hx
  · simpa using closed x hx
  · rcases List.mem_cons.mp hx with rfl | hx
    · exact absurd xh (lt_irrefl _)
    · have := List.rel_of_pairwise_cons (List.pairwise_append.mp sorted).2.1 hx
      omega

theorem State.firstOpen_none {s : State} {low x : Nat} {o : ShoulderOrder} (found : s.firstOpen low o = none)
    (from_low : low ≤ x) (to_last : x ≤ o.lastGantry) : s.shoulder x ≠ .opened := by
  unfold State.firstOpen at found
  rw [List.find?_eq_none] at found
  have inside : x ∈ List.range' low (o.lastGantry + 1 - low) := by
    rw [List.mem_range'_1]
    omega
  simpa using found x inside

/-! ## Orders and the gantries they cover (R131) -/

/-- Two shoulder orders of the register cover no gantry in common. -/
theorem State.OrdersWf.apart {s : State} (h : s.OrdersWf) {x y : Nat × ShoulderOrder}
    (hx : x ∈ s.closures.shoulderOrders) (hy : y ∈ s.closures.shoulderOrders) (ne : x ≠ y) {g : Nat}
    (inx : x.2.firstGantry ≤ g ∧ g ≤ x.2.lastGantry) (iny : y.2.firstGantry ≤ g ∧ g ≤ y.2.lastGantry) : False := by
  obtain ⟨-, -, -, -, -, -, ranges⟩ := h
  unfold ClosureUnit.ranges at ranges
  rw [List.pairwise_map] at ranges
  have : Std.Symm fun a b : Nat × ShoulderOrder =>
      Machine.apart (a.2.firstGantry, a.2.lastGantry) (b.2.firstGantry, b.2.lastGantry) := ⟨fun _ _ h => h.symm⟩
  rcases ranges.forall hx hy ne with before | after
  · dsimp only at before
    omega
  · dsimp only at after
    omega

theorem State.OrdersWf.order_eq {s : State} (h : s.OrdersWf) {slot : Nat} {o o' : ShoulderOrder}
    (ho : (slot, o) ∈ s.closures.shoulderOrders) (ho' : (slot, o') ∈ s.closures.shoulderOrders) : o = o' := by
  obtain ⟨-, -, -, slots, -, -, -⟩ := h
  obtain ⟨c, hc, here, body⟩ := ClosureUnit.mem_shoulderOrders.mp ho
  obtain ⟨c', hc', here', body'⟩ := ClosureUnit.mem_shoulderOrders.mp ho'
  cases Closure.eq_of_slot slots hc hc' (here.trans here'.symm)
  exact ClosureBody.shoulder.inj (body.symm.trans body')

theorem mem_shoulderOrders_put {u v : ClosureUnit} {slot : Nat} {o o' : ShoulderOrder}
    (held : (slot, o) ∈ u.shoulderOrders) (register : v.register = putShoulder u.register slot o') :
    (slot, o') ∈ v.shoulderOrders := by
  obtain ⟨c, hc, rfl, -⟩ := ClosureUnit.mem_shoulderOrders.mp held
  refine ClosureUnit.mem_shoulderOrders.mpr ⟨{ c with body := .shoulder o' }, ?_, rfl, rfl⟩
  rw [register]
  exact List.mem_map.mpr ⟨c, hc, if_pos rfl⟩

theorem mem_shoulderOrders_other {u v : ClosureUnit} {slot : Nat} {o' : ShoulderOrder} {x : Nat × ShoulderOrder}
    (hx : x ∈ u.shoulderOrders) (ne : x.1 ≠ slot) (register : v.register = putShoulder u.register slot o') :
    x ∈ v.shoulderOrders := by
  obtain ⟨n, y⟩ := x
  obtain ⟨c, hc, rfl, body⟩ := ClosureUnit.mem_shoulderOrders.mp hx
  refine ClosureUnit.mem_shoulderOrders.mpr ⟨c, ?_, rfl, body⟩
  rw [register]
  exact List.mem_map.mpr ⟨c, hc, if_neg ne⟩

/-! ## The law of the shoulder (R130) -/

/-- The law of the shoulder reads the orders and the shoulder states alone. -/
theorem State.ShoulderWf.congr {s t : State} (h : s.ShoulderWf)
    (orders : t.closures.shoulderOrders = s.closures.shoulderOrders)
    (shoulders : t.closures.shoulders = s.closures.shoulders) : t.ShoulderWf := by
  have same : ∀ g, t.shoulder g = s.shoulder g := fun g => by rw [State.shoulder, shoulders, State.shoulder]
  obtain ⟨wf, states, covered⟩ := h
  refine ⟨by rw [orders]; exact wf, ?_, ?_⟩
  · rw [orders]
    exact fun x hx g hg first last => (same g).trans (states x hx g hg first last)
  · rw [orders]
    exact fun g hg ne => covered g hg (same g ▸ ne)

/-- With every order gone and every shoulder CLOSED the law holds. -/
theorem State.ShoulderWf.of_reset {t : State} (closures : t.closures = .reset) : t.ShoulderWf := by
  refine ⟨?_, ?_, fun g hg ne => absurd ?_ ne⟩
  · rw [closures]
    nofun
  · rw [closures]
    nofun
  · rw [State.shoulder, closures]
    exact (List.getD_eq_getElem?_getD).trans (by simp [ClosureUnit.reset, hg])

/-- An order replaced in its slot, with the shoulder states of its range set as it says and no other changed, keeps the
law of the shoulder. -/
theorem State.ShoulderWf.replace {s t : State} {slot : Nat} {o o' : ShoulderOrder} (h : s.ShoulderWf)
    (orders : s.OrdersWf) (held : (slot, o) ∈ s.closures.shoulderOrders)
    (register : t.closures.register = putShoulder s.closures.register slot o')
    (first : o'.firstGantry = o.firstGantry) (last : o'.lastGantry = o.lastGantry) (wf : o'.Wf)
    (inside : ∀ g < Config.maxGantries, o.firstGantry ≤ g → g ≤ o.lastGantry → t.shoulder g = o'.stateAt g)
    (outside : ∀ g, ¬(o.firstGantry ≤ g ∧ g ≤ o.lastGantry) → t.shoulder g = s.shoulder g) : t.ShoulderWf := by
  obtain ⟨sound, states, covered⟩ := h
  refine ⟨fun x hx => ?_, fun x hx g hg fx lx => ?_, fun g hg ne => ?_⟩
  · rcases mem_putShoulder register hx with rfl | ⟨-, hx⟩
    · exact wf
    · exact sound x hx
  · rcases mem_putShoulder register hx with rfl | ⟨other, hx⟩
    · exact inside g hg (first ▸ fx) (last ▸ lx)
    · have apart : ¬(o.firstGantry ≤ g ∧ g ≤ o.lastGantry) := fun both =>
        orders.apart hx held (fun e => other (congrArg Prod.fst e)) ⟨fx, lx⟩ both
      rw [outside g apart]
      exact states x hx g hg fx lx
  · by_cases both : o.firstGantry ≤ g ∧ g ≤ o.lastGantry
    · exact ⟨(slot, o'), mem_shoulderOrders_put held register, first.trans_le both.1, both.2.trans_eq last.symm⟩
    · obtain ⟨x, hx, fx, lx⟩ := covered g hg (outside g both ▸ ne)
      refine ⟨x, mem_shoulderOrders_other hx (fun e => ?_) register, fx, lx⟩
      obtain ⟨n, y⟩ := x
      dsimp only at e
      subst e
      rw [orders.order_eq held hx] at both
      exact both ⟨fx, lx⟩

/-- What the law says of one order of the register. -/
theorem State.ShoulderWf.order {s : State} (k : s.ShoulderWf) {slot : Nat} {o : ShoulderOrder}
    (held : (slot, o) ∈ s.closures.shoulderOrders) : o.Wf ∧
      ∀ g < Config.maxGantries, o.firstGantry ≤ g → g ≤ o.lastGantry → s.shoulder g = o.stateAt g := by
  obtain ⟨wf, states, -⟩ := k
  exact ⟨wf _ held, states _ held⟩

/-! ## One order under way (R133 to R138) -/

theorem ShoulderOrder.stateAt_none {o : ShoulderOrder} {g : Nat} (h : o.front = none) : o.stateAt g = .opened := by
  rw [ShoulderOrder.stateAt, h]

theorem ShoulderOrder.stateAt_some {o : ShoulderOrder} {f g : Nat} (h : o.front = some f) :
    o.stateAt g = if g < f then .closed else if g = f ∧ o.phase = .closing then .merge else .opened := by
  rw [ShoulderOrder.stateAt, h]

/-- A reread order keeps its front and gives its gantries the states it gave before. -/
theorem ShoulderOrder.Reread.wf {o o' : ShoulderOrder} (h : o.Reread o') (wf : o.Wf) :
    o'.Wf ∧ ∀ g, o'.stateAt g = o.stateAt g := by
  obtain ⟨absent, range, hold⟩ := wf
  cases h with
  | halts phase =>
    refine ⟨⟨absent.trans (by simp [phase]), range, fun ne => absurd (hold ne) (by simp [phase])⟩, fun g => ?_⟩
    simp [ShoulderOrder.stateAt, phase]
  | resumes phase =>
    refine ⟨⟨absent.trans (by simp [phase]), range, fun ne => absurd (hold ne) (by simp [phase])⟩, fun g => ?_⟩
    simp [ShoulderOrder.stateAt, phase]
  | holds phase n => exact ⟨⟨absent, range, fun _ => phase⟩, fun g => rfl⟩

/-- The front of a closing moves to the next OPEN gantry, which becomes MERGE. -/
theorem State.ShoulderWf.closing {s t : State} {slot h : Nat} {o : ShoulderOrder} {m : Option Nat} (k : s.ShoulderWf)
    (orders : s.OrdersWf) (held : (slot, o) ∈ s.closures.shoulderOrders)
    (register : t.closures.register =
      putShoulder s.closures.register slot { o with phase := .closing, front := some h, mergeHold := m })
    (range : o.firstGantry ≤ h ∧ h ≤ o.lastGantry) (front : h < Config.maxGantries → t.shoulder h = .merge)
    (upstream : ∀ g < Config.maxGantries, o.firstGantry ≤ g → g < h → t.shoulder g = .closed)
    (downstream : ∀ g < Config.maxGantries, h < g → g ≤ o.lastGantry → t.shoulder g = .opened)
    (outside : ∀ g, ¬(o.firstGantry ≤ g ∧ g ≤ o.lastGantry) → t.shoulder g = s.shoulder g) : t.ShoulderWf := by
  refine k.replace orders held register rfl rfl ⟨by simp, ?_, fun _ => rfl⟩ (fun g hg fg gl => ?_) outside
  · rintro f ⟨⟩
    exact range
  · rw [ShoulderOrder.stateAt_some (f := h) rfl]
    by_cases before : g < h
    · rw [if_pos before]
      exact upstream g hg fg before
    · rw [if_neg before]
      by_cases here : g = h
      · subst here
        rw [if_pos ⟨rfl, rfl⟩]
        exact front hg
      · rw [if_neg fun e => here e.1]
        exact downstream g hg (by omega) gl

/-- The states that an order in CLOSING gives its gantries downstream of its front. -/
theorem State.ShoulderWf.opened_beyond {s : State} (k : s.ShoulderWf) {slot f : Nat} {o : ShoulderOrder}
    (held : (slot, o) ∈ s.closures.shoulderOrders) (front : o.front = some f) {g : Nat} (hg : g < Config.maxGantries)
    (beyond : f < g) (last : g ≤ o.lastGantry) : s.shoulder g = .opened := by
  obtain ⟨⟨-, range, -⟩, states⟩ := k.order held
  rw [states g hg ((range f front).1.trans beyond.le) last, ShoulderOrder.stateAt_some front,
    if_neg (by omega), if_neg (by omega)]

theorem State.ShoulderWf.closed_before {s : State} (k : s.ShoulderWf) {slot f : Nat} {o : ShoulderOrder}
    (held : (slot, o) ∈ s.closures.shoulderOrders) (front : o.front = some f) {g : Nat} (hg : g < Config.maxGantries)
    (first : o.firstGantry ≤ g) (before : g < f) : s.shoulder g = .closed := by
  obtain ⟨⟨-, range, -⟩, states⟩ := k.order held
  rw [states g hg first (before.le.trans (range f front).2), ShoulderOrder.stateAt_some front, if_pos before]

/-- An order that is not CLOSING gives its gantries OPEN or CLOSED, and OPEN beyond an OPEN one. -/
theorem State.ShoulderWf.not_closing {s : State} (k : s.ShoulderWf) {slot : Nat} {o : ShoulderOrder}
    (held : (slot, o) ∈ s.closures.shoulderOrders) (phase : o.phase ≠ .closing) {g : Nat} (hg : g < Config.maxGantries)
    (first : o.firstGantry ≤ g) (last : g ≤ o.lastGantry) :
    (s.shoulder g ≠ .opened → s.shoulder g = .closed) ∧
      ∀ h < Config.maxGantries, o.firstGantry ≤ h → h < g → s.shoulder h = .opened → s.shoulder g = .opened := by
  obtain ⟨-, states⟩ := k.order held
  have state := states g hg first last
  cases front : o.front with
  | none =>
    rw [ShoulderOrder.stateAt_none front] at state
    exact ⟨fun ne => absurd state ne, fun _ _ _ _ _ => state⟩
  | some f =>
    rw [ShoulderOrder.stateAt_some front] at state
    by_cases before : g < f
    · rw [if_pos before] at state
      refine ⟨fun _ => state, fun h hh fh hg opened => ?_⟩
      have := states h hh fh (hg.le.trans last)
      rw [ShoulderOrder.stateAt_some front, if_pos (hg.trans before), opened] at this
      cases this
    · rw [if_neg before, if_neg fun e => phase e.2] at state
      exact ⟨fun ne => absurd state ne, fun _ _ _ _ _ => state⟩

theorem State.withOpening_shoulderWf {s : State} {id : Nat} {o : ShoulderOrder} (k : s.ShoulderWf)
    (shape : s.closures.ShapeWf) (range : o.firstGantry ≤ o.lastGantry)
    (free : s.overlapping o.firstGantry o.lastGantry = none) (phase : o.phase = .opening ∨ o.phase = .halted)
    (front : o.front = some o.lastGantry) (hold : o.mergeHold = none) : (s.withOpening id o).ShoulderWf := by
  obtain ⟨sound, states, covered⟩ := k
  obtain ⟨size, -, -⟩ := shape
  have orders : (s.withOpening id o).closures.shoulderOrders =
      s.closures.shoulderOrders ++ [(s.closures.freeSlot, o)] := ClosureUnit.shoulderOrders_append_shoulder rfl
  have apart : ∀ x ∈ s.closures.shoulderOrders, ∀ g, x.2.firstGantry ≤ g → g ≤ x.2.lastGantry →
      ¬(o.firstGantry ≤ g ∧ g ≤ o.lastGantry) := by
    intro x hx g fx lx both
    have := State.overlapping_eq_none free (x.2.firstGantry, x.2.lastGantry) (List.mem_map.mpr ⟨x, hx, rfl⟩)
    rcases this with before | after
    · dsimp only at before
      omega
    · dsimp only at after
      omega
  have set : ∀ g, g < Config.maxGantries → (s.withOpening id o).shoulder g =
      if g = o.lastGantry then .opened else s.shoulder g := by
    intro g hg
    by_cases e : g = o.lastGantry
    · subst e
      rw [if_pos rfl]
      exact State.setShoulder_shoulder_self _ (size.symm ▸ hg)
    · rw [if_neg e]
      exact State.setShoulder_shoulder_ne _ _ e
  have notClosing : o.phase ≠ .closing ∧ o.phase ≠ .opened := by
    rcases phase with p | p <;> simp [p]
  refine ⟨fun x hx => ?_, fun x hx g hg fx lx => ?_, fun g hg ne => ?_⟩
  · rw [orders] at hx
    rcases List.mem_append.mp hx with hx | hx
    · exact sound x hx
    · rw [List.mem_singleton.mp hx]
      refine ⟨by simp [front, notClosing], ?_, fun ne => absurd hold ne⟩
      rw [front]
      rintro f ⟨⟩
      exact ⟨range, le_rfl⟩
  · rw [orders] at hx
    rw [set g hg]
    rcases List.mem_append.mp hx with hx | hx
    · rw [if_neg (by have := apart x hx g fx lx; omega)]
      exact states x hx g hg fx lx
    · rw [List.mem_singleton.mp hx] at fx lx ⊢
      rw [ShoulderOrder.stateAt_some front]
      by_cases e : g = o.lastGantry
      · rw [if_pos e, if_neg (by omega), if_neg fun x => notClosing.1 x.2]
      · rw [if_neg e, if_pos (by dsimp only at lx; omega)]
        by_contra up
        obtain ⟨y, hy, fy, ly⟩ := covered g hg up
        exact apart y hy g fy ly ⟨fx, lx⟩
  · rw [set g hg] at ne
    rw [orders]
    by_cases e : g = o.lastGantry
    · exact ⟨_, List.mem_append_right _ (List.mem_singleton.mpr rfl), e ▸ range, e.le⟩
    · rw [if_neg e] at ne
      obtain ⟨y, hy, cover⟩ := covered g hg ne
      exact ⟨y, List.mem_append_left _ hy, cover⟩

theorem State.openingEnded_shoulderWf {s : State} {slot : Nat} {o : ShoulderOrder} (k : s.ShoulderWf)
    (orders : s.OrdersWf) (held : (slot, o) ∈ s.closures.shoulderOrders) (phase : o.phase = .opening)
    (front : o.front = some o.firstGantry) :
    (s.withShoulder slot { o with phase := .opened, front := none }).ShoulderWf := by
  obtain ⟨⟨-, -, hold⟩, states⟩ := k.order held
  refine k.replace orders held rfl rfl rfl ⟨by simp, nofun, fun ne => absurd (hold ne) (by simp [phase])⟩
    (fun g hg fg gl => ?_) fun g _ => rfl
  refine (states g hg fg gl).trans ?_
  rw [ShoulderOrder.stateAt_none (g := g) (o := { o with phase := .opened, front := none }) rfl,
    ShoulderOrder.stateAt_some front, if_neg (by omega), if_neg (by simp [phase])]

theorem State.openingMoved_shoulderWf {s : State} {slot g : Nat} {o : ShoulderOrder} {p : ShoulderPhase}
    (k : s.ShoulderWf) (shape : s.closures.ShapeWf) (orders : s.OrdersWf)
    (held : (slot, o) ∈ s.closures.shoulderOrders) (phase : o.phase = .opening) (front : o.front = some g)
    (inside : g ≠ o.firstGantry) (next : p = .opening ∨ p = .halted) :
    ((s.withShoulder slot { o with phase := p, front := some (g - 1) }).setShoulder (g - 1) .opened).ShoulderWf := by
  obtain ⟨⟨-, range, hold⟩, states⟩ := k.order held
  obtain ⟨first, last⟩ := range g front
  obtain ⟨size, -, -⟩ := shape
  have other : p ≠ .closing ∧ p ≠ .opened := by
    rcases next with p | p <;> simp [p]
  refine k.replace orders held rfl rfl rfl ⟨by simp [other], ?_, fun ne => absurd (hold ne) (by simp [phase])⟩
    (fun x hx fx xl => ?_) fun x out => State.setShoulder_shoulder_ne _ _ (by omega)
  · rintro f ⟨⟩
    dsimp only
    omega
  · rw [ShoulderOrder.stateAt_some (f := g - 1) rfl, if_neg (c := x = g - 1 ∧ p = .closing) fun e => other.1 e.2]
    by_cases here : x = g - 1
    · subst here
      rw [if_neg (lt_irrefl _)]
      exact State.setShoulder_shoulder_self _ (size.symm ▸ hx)
    · refine (State.setShoulder_shoulder_ne _ _ here).trans ((states x hx fx xl).trans ?_)
      rw [ShoulderOrder.stateAt_some front, if_neg (c := x = g ∧ o.phase = .closing) (by simp [phase])]
      by_cases before : x < g - 1
      · rw [if_pos before, if_pos (by omega)]
      · rw [if_neg before, if_neg (by omega)]

theorem State.closingStarted_shoulderWf {s : State} {slot h : Nat} {o : ShoulderOrder} {m : Option Nat}
    (k : s.ShoulderWf) (shape : s.closures.ShapeWf) (orders : s.OrdersWf)
    (held : (slot, o) ∈ s.closures.shoulderOrders) (phase : o.phase ≠ .closing)
    (found : s.firstOpen o.firstGantry o = some h) :
    ((s.withShoulder slot { o with phase := .closing, front := some h, mergeHold := m }).setShoulder h
      .merge).ShoulderWf := by
  obtain ⟨first, last, opened, closed⟩ := State.firstOpen_some found
  obtain ⟨size, -, -⟩ := shape
  have inside : h < Config.maxGantries := size ▸ State.lt_of_opened opened
  refine k.closing orders held rfl ⟨first, last⟩ (fun _ => ?_) (fun g hg fg before => ?_) (fun g hg beyond gl => ?_)
    fun g out => State.setShoulder_shoulder_ne _ _ (by omega)
  · exact State.setShoulder_shoulder_self _ (size.symm ▸ inside)
  · refine (State.setShoulder_shoulder_ne _ _ before.ne).trans ?_
    exact (k.not_closing held phase hg fg (before.le.trans last)).1 (closed g fg before)
  · refine (State.setShoulder_shoulder_ne _ _ beyond.ne').trans ?_
    exact (k.not_closing held phase hg (first.trans beyond.le) gl).2 h inside first beyond opened

theorem State.closingMoved_shoulderWf {s : State} {slot f h : Nat} {o : ShoulderOrder} {m : Option Nat}
    (k : s.ShoulderWf) (shape : s.closures.ShapeWf) (orders : s.OrdersWf)
    (held : (slot, o) ∈ s.closures.shoulderOrders) (front : o.front = some f)
    (found : (s.setShoulder f .closed).firstOpen (f + 1) o = some h) :
    (((s.setShoulder f .closed).withShoulder slot
      { o with phase := .closing, front := some h, mergeHold := m }).setShoulder h .merge).ShoulderWf := by
  obtain ⟨beyondFront, last, opened, closed⟩ := State.firstOpen_some found
  obtain ⟨size, -, -⟩ := shape
  obtain ⟨⟨-, range, -⟩, -⟩ := k.order held
  obtain ⟨first, -⟩ := range f front
  have inside : h < s.closures.shoulders.length := by
    have := State.lt_of_opened opened
    rwa [State.setShoulder, List.length_set] at this
  refine k.closing orders held rfl ⟨by omega, last⟩ (fun _ => ?_) (fun g hg fg before => ?_)
    (fun g hg beyond gl => ?_) fun g out => ?_
  · refine State.setShoulder_shoulder_self _ ?_
    show h < (s.closures.shoulders.set f .closed).length
    rwa [List.length_set]
  · refine (State.setShoulder_shoulder_ne _ _ before.ne).trans ?_
    show (s.setShoulder f .closed).shoulder g = .closed
    by_cases here : g = f
    · subst here
      exact State.setShoulder_shoulder_self _ (size.symm ▸ hg)
    · by_cases up : g < f
      · exact (State.setShoulder_shoulder_ne _ _ here).trans (k.closed_before held front hg fg up)
      · refine absurd ?_ (closed g (by omega) before)
        exact (State.setShoulder_shoulder_ne _ _ here).trans
          (k.opened_beyond held front hg (by omega) (before.le.trans last))
  · refine (State.setShoulder_shoulder_ne _ _ beyond.ne').trans ?_
    refine (State.setShoulder_shoulder_ne (g := f) _ s (by omega)).trans ?_
    exact k.opened_beyond held front hg (by omega) gl
  · refine (State.setShoulder_shoulder_ne _ _ (by omega)).trans ?_
    exact State.setShoulder_shoulder_ne (g := f) _ s (by omega)

theorem State.closingEnded_shoulderWf {s : State} {slot f : Nat} {o : ShoulderOrder}
    (k : s.ShoulderWf) (shape : s.closures.ShapeWf) (orders : s.OrdersWf)
    (held : (slot, o) ∈ s.closures.shoulderOrders) (front : o.front = some f)
    (found : (s.setShoulder f .closed).firstOpen (f + 1) o = none) :
    ((s.setShoulder f .closed).setRegister
      (s.closures.register.filter (fun c => decide (c.slot ≠ slot)))).ShoulderWf := by
  obtain ⟨wf, states, covered⟩ := id k
  obtain ⟨⟨-, range, -⟩, -⟩ := k.order held
  obtain ⟨first, last⟩ := range f front
  obtain ⟨size, -, -⟩ := shape
  have left : ∀ x, x ∈ ((s.setShoulder f .closed).setRegister
      (s.closures.register.filter (fun c => decide (c.slot ≠ slot)))).closures.shoulderOrders ↔
        x ∈ s.closures.shoulderOrders ∧ x.1 ≠ slot := by
    rintro ⟨n, y⟩
    rw [ClosureUnit.mem_shoulderOrders, ClosureUnit.mem_shoulderOrders]
    constructor
    · rintro ⟨c, hc, rfl, body⟩
      obtain ⟨hc, other⟩ := List.mem_filter.mp hc
      exact ⟨⟨c, hc, rfl, body⟩, of_decide_eq_true other⟩
    · rintro ⟨⟨c, hc, rfl, body⟩, other⟩
      exact ⟨c, List.mem_filter.mpr ⟨hc, decide_eq_true other⟩, rfl, body⟩
  refine ⟨fun x hx => wf x ((left x).mp hx).1, fun x hx g hg fx lx => ?_, fun g hg ne => ?_⟩
  · obtain ⟨hx, other⟩ := (left x).mp hx
    have apart : g ≠ f := fun e => orders.apart hx held (fun e => other (congrArg Prod.fst e)) (e ▸ ⟨fx, lx⟩) ⟨first, last⟩
    exact (State.setShoulder_shoulder_ne _ _ apart).trans (states x hx g hg fx lx)
  · have elsewhere : g ≠ f := fun e => by
      subst e
      exact ne (State.setShoulder_shoulder_self _ (size.symm ▸ hg))
    have same : (s.setShoulder f .closed).shoulder g = s.shoulder g := State.setShoulder_shoulder_ne _ _ elsewhere
    obtain ⟨x, hx, fx, lx⟩ := covered g hg fun e => ne (same.trans e)
    refine ⟨x, (left x).mpr ⟨hx, fun e => ?_⟩, fx, lx⟩
    obtain ⟨n, y⟩ := x
    dsimp only at e
    subst e
    cases orders.order_eq held hx
    by_cases up : g < f
    · exact ne (same.trans (k.closed_before held front hg fx up))
    · have beyond : f < g := by omega
      exact State.firstOpen_none found beyond lx (same.trans (k.opened_beyond held front hg beyond lx))

theorem Move.keeps_shoulders {s t : State} (m : Move s t) (ground : s.GroundWf) (k : s.ShoulderWf) : t.ShoulderWf := by
  obtain ⟨⟨-, -, -, -, shape⟩, orders, -⟩ := ground
  cases m with
  | wasReset | unloaded | restarted => exact .of_reset rfl
  | roadAccepted id road =>
    exact State.requestPass_keeps (P := State.ShoulderWf) _ fun _ =>
      k.congr (ClosureUnit.shoulderOrders_append_road rfl) rfl
  | roadCleared c r held road =>
    have orders : (s.withoutRoad c).closures.shoulderOrders = s.closures.shoulderOrders := by
      obtain ⟨-, -, -, slots, -, -, -⟩ := orders
      unfold ClosureUnit.shoulderOrders
      show (s.closures.register.filter _).filterMap _ = _
      rw [List.filterMap_filter]
      refine List.filterMap_congr fun d hd => ?_
      by_cases same : d.slot = c.slot
      · cases Closure.eq_of_slot slots hd held same
        simp [road]
      · simp [same]
    exact k.congr orders rfl
  | openingAccepted id o configured fresh room range known apart phase front hold =>
    exact State.withOpening_shoulderWf k shape range apart phase front hold
  | reread slot o o' held change =>
    obtain ⟨wf, states⟩ := k.order held
    obtain ⟨sound, same⟩ := change.wf wf
    exact k.replace orders held rfl change.first change.last sound
      (fun g hg first last => (states g hg first last).trans (same g).symm) fun _ _ => rfl
  | openingEnded slot o held phase front => exact State.openingEnded_shoulderWf k orders held phase front
  | openingMoved slot o g p held phase front inside next =>
    exact State.openingMoved_shoulderWf k shape orders held phase front inside next
  | closingStarted slot o h m held phase found =>
    exact State.requestPass_keeps (P := State.ShoulderWf) _ fun _ =>
      State.closingStarted_shoulderWf k shape orders held phase found
  | closingMoved slot o f h m held phase front found =>
    exact State.requestPass_keeps (P := State.ShoulderWf) _ fun _ =>
      State.closingMoved_shoulderWf k shape orders held front found
  | closingEnded slot o f held phase front found =>
    exact State.requestPass_keeps (P := State.ShoulderWf) _ fun _ =>
      State.closingEnded_shoulderWf k shape orders held front found
  | holdsTicked =>
    obtain ⟨wf, states, covered⟩ := k
    have ticked := shoulderOrders_tick (u := s.closures) (v := (s.setRegister (s.closures.register.map Closure.tick)).closures) rfl
    refine ⟨?_, ?_, ?_⟩
    · rw [ticked]
      intro x hx
      obtain ⟨y, hy, rfl⟩ := List.mem_map.mp hx
      obtain ⟨absent, range, hold⟩ := wf y hy
      refine ⟨absent, range, fun ne => hold fun e => ne ?_⟩
      rw [e]
      rfl
    · rw [ticked]
      intro x hx
      obtain ⟨y, hy, rfl⟩ := List.mem_map.mp hx
      exact states y hy
    · rw [ticked]
      intro g hg ne
      obtain ⟨y, hy, cover⟩ := covered g hg ne
      exact ⟨_, List.mem_map_of_mem hy, cover⟩
  | started | activated | passRequested => exact State.requestPass_keeps (P := State.ShoulderWf) _ fun _ => k
  | judged g r => exact State.judged_keeps (P := State.ShoulderWf) g r fun _ => k
  | _ => exact k

theorem State.composed_shoulderWf {s : State} (g : Nat) (k : s.ShoulderWf) : (s.composed g).ShoulderWf := by
  obtain ⟨q, e, -⟩ := s.composed_spec g
  rw [e]
  exact k.congr (s.settledRegister_shoulderOrders g) rfl

/-- Settles O53: each stage of an opening and of a closing sets the shoulder states that the order then stands for,
and orders of the register cover no gantry in common. -/
theorem shoulderRunLaw : Obligations.ShoulderRunLaw := by
  unfold Obligations.ShoulderRunLaw
  intro s t _ shape orders places shoulders h
  have keep := step_keeps (P := fun s => s.GroundWf ∧ s.ShoulderWf)
    (fun _ _ m k => ⟨m.keeps_ground k.1, m.keeps_shoulders k.1 k.2⟩)
    (fun s g _ k => ⟨State.composed_groundWf g k.1, State.composed_shoulderWf g k.2⟩) h
    ⟨⟨shape, orders, places⟩, shoulders⟩
  exact keep.2

end Sys2Proof.Machine
end

section
/-! SUPPORT. The laws of what a visit demands: the demanded limit, the cascade and the shoulder aspect, of the gantries
that no pass has still to visit (R115, R130). -/

namespace Sys2Proof.Machine

/-! ## Gantries that no pass has still to visit (R140) -/

/-- A property of every gantry that no pass has still to visit, while the segment signs. -/
def State.OnVisited (Q : State → Nat → Prop) (s : State) : Prop :=
  s.signing = true → ∀ g < s.gantryCount, s.visited g = true → Q s g

theorem State.OnVisited.of_quiet {Q : State → Nat → Prop} {s : State} (h : s.signing = false) : s.OnVisited Q :=
  fun q => absurd (h.symm.trans q) (by decide)

/-- After a pass request from a gantry a property need only hold of the gantries downstream of it. -/
theorem State.OnVisited.requestPass {Q : State → Nat → Prop} {s : State} {h : Nat}
    (free : ∀ p g, Q s g → Q (s.withPass p) g)
    (k : s.signing = true → ∀ g < s.gantryCount, s.visited g = true → h < g → Q s g) :
    (s.requestPass h).OnVisited Q := by
  obtain ⟨p, e, -, covers⟩ := s.requestPass_spec h
  rw [e]
  intro signing g hg visited
  obtain ⟨before, beyond⟩ := covers g visited
  exact free p g (k signing g hg before (beyond signing))

/-- A pass from the most downstream gantry has still to visit every gantry. -/
theorem State.OnVisited.entered {Q : State → Nat → Prop} {s : State} (free : ∀ p g, Q s g → Q (s.withPass p) g) :
    (s.requestPass s.lastGantry).OnVisited Q :=
  .requestPass free fun _ g hg _ beyond => by
    unfold State.lastGantry at beyond
    omega

theorem State.OnVisited.judged {Q : State → Nat → Prop} {s : State} {g : Nat} {r : DeliveryRec}
    (free : ∀ s p g, Q s g → Q (s.withPass p) g)
    (k : s.signing = true → ∀ x < s.gantryCount, s.visited x = true → g < x → Q (s.setDelivery g r) x) :
    (((s.setDelivery g r).requestSites g).requestPass g).OnVisited Q := by
  obtain ⟨p, e, -, covers⟩ := (s.setDelivery g r).requestSites_spec g
  rw [e]
  exact .requestPass (free _) fun signing x hx visited beyond =>
    free _ p x (k signing x hx (covers x visited).1 beyond)

/-- After a visit to a gantry the pass has still to visit the gantries upstream of it alone. -/
theorem State.composed_visited {s : State} {g x : Nat} : (s.composed g).visited x = true ↔ g ≤ x := by
  obtain ⟨q, e, -⟩ := s.composed_spec g
  rw [e, State.visited_iff]
  dsimp only
  split
  · constructor
    · intro _
      omega
    · nofun
  · constructor
    · intro h
      have := h (g - 1) rfl
      omega
    · rintro h n ⟨⟩
      omega

/-- What the mover of a pass had visited before it came to a gantry. -/
theorem State.visited_beyond {s : State} {g x : Nat} (pass : s.composer.pass = some g) : s.visited x = true ↔ g < x := by
  rw [State.visited_iff, pass]
  constructor
  · exact fun h => h g rfl
  · rintro h n ⟨⟩
    exact h

theorem State.signing_eq_false {s : State} (h : s.mode = .unconfigured ∨ s.mode = .standby) : s.signing = false := by
  rw [Bool.eq_false_iff]
  intro q
  rcases h with h | h <;> simp [State.signing, h] at q

theorem State.restarted_signing {s : State} (b : Bool) (h : s.mode = if b then .standby else .unconfigured) :
    s.signing = false := by
  cases b
  · exact State.signing_eq_false (.inl h)
  · exact State.signing_eq_false (.inr h)

/-! ## Records after a visit -/

theorem State.composed_deliveryRec_ne {s : State} {g x : Nat} (ne : x ≠ g) :
    (s.composed g).deliveryRec x = s.deliveryRec x := by
  obtain ⟨q, e, -⟩ := s.composed_spec g
  rw [e]
  exact s.setDelivery_deliveryRec_of_ne _ ne

theorem State.composed_deliveryRec_self {s : State} {g : Nat} (h : g < s.composer.delivery.length) :
    (s.composed g).deliveryRec g = { s.deliveryRec g with demanded := some (s.composition g) } := by
  obtain ⟨q, e, -⟩ := s.composed_spec g
  rw [e]
  exact s.setDelivery_deliveryRec_of_lt _ h

theorem State.composed_closures (g : Nat) (s : State) :
    (s.composed g).closures = { s.closures with register := s.settledRegister g } := by
  obtain ⟨q, e, -⟩ := s.composed_spec g
  rw [e]
  rfl

theorem State.composed_par (g : Nat) (s : State) : (s.composed g).par = s.par :=
  congrArg Tables.par (s.composed_tables g)

theorem State.composed_gantryCount (g : Nat) (s : State) : (s.composed g).gantryCount = s.gantryCount :=
  congrArg (fun t : Tables => t.gantries.length) (s.composed_tables g)

/-- A visit changes nothing of a Gantry Delivery Record but the demand. -/
theorem State.composed_deliveryRec (g x : Nat) (s : State) :
    ∃ d, (s.composed g).deliveryRec x = { s.deliveryRec x with demanded := d } := by
  by_cases here : x = g
  · subst here
    by_cases inside : x < s.composer.delivery.length
    · exact ⟨_, State.composed_deliveryRec_self inside⟩
    · obtain ⟨q, e, -⟩ := s.composed_spec x
      rw [e]
      refine ⟨(s.deliveryRec x).demanded, ?_⟩
      show (s.composer.delivery.set x _).getD x .reset = s.deliveryRec x
      rw [List.set_eq_of_length_le (Nat.le_of_not_lt inside)]
      rfl
  · exact ⟨_, State.composed_deliveryRec_ne here⟩

theorem State.composed_out (g x : Nat) (s : State) :
    ((s.composed g).deliveryRec x).state.out = (s.deliveryRec x).state.out := by
  obtain ⟨d, e⟩ := s.composed_deliveryRec g x
  rw [e]

/-- Records with the same readings, read at one gantry. -/
theorem State.reading_eq {s t : State}
    (readings : t.composer.delivery.map DeliveryRec.reading = s.composer.delivery.map DeliveryRec.reading) (g : Nat) :
    (t.deliveryRec g).reading = (s.deliveryRec g).reading := by
  have at_g : ∀ u : State, (u.deliveryRec g).reading =
      ((u.composer.delivery.map DeliveryRec.reading)[g]?).getD DeliveryRec.reset.reading := by
    intro u
    simp only [State.deliveryRec, List.getD_eq_getElem?_getD, List.getElem?_map]
    cases u.composer.delivery[g]? <;> rfl
  rw [at_g, at_g, readings]

/-- A judged record that keeps its demand leaves every demand as it was. -/
theorem State.setDelivery_demanded {s : State} {g : Nat} {r : DeliveryRec}
    (demand : r.demanded = (s.deliveryRec g).demanded) (x : Nat) :
    ((s.setDelivery g r).deliveryRec x).demanded = (s.deliveryRec x).demanded := by
  by_cases here : x = g
  · subst here
    by_cases inside : x < s.composer.delivery.length
    · rw [s.setDelivery_deliveryRec_of_lt r inside, demand]
    · show ((s.composer.delivery.set x r).getD x .reset).demanded = _
      rw [List.set_eq_of_length_le (Nat.le_of_not_lt inside)]
      rfl
  · rw [s.setDelivery_deliveryRec_of_ne r here]

/-! ## The shoulder aspect (R130, R142) -/

theorem Aspect.rank_le_highest {a last : Aspect} : ∀ {l : List Aspect}, a ∈ l → a.rank ≤ (highest l last).rank
  | b :: rest, h => by
    have step : highest (b :: rest) last =
      if (highest rest last).rank ≤ b.rank then b else highest rest last := rfl
    rw [step]
    rcases List.mem_cons.mp h with rfl | h
    · split
      · exact le_rfl
      · omega
    · have := Aspect.rank_le_highest (last := last) h
      split <;> omega

theorem Aspect.eq_closed_of_rank {a : Aspect} (h : 3 ≤ a.rank) : a = .closed := by
  cases a with
  | closed => rfl
  | _ => simp [Aspect.rank] at h

/-- While the shoulder is not OPEN its aspect is CLOSED or a merge (R130). -/
theorem shoulderAspect_rank {x : ShoulderState} {running : List Aspect} (h : x ≠ .opened) :
    ∃ a ∈ (shoulderAspect x running).toList, 2 ≤ a.rank := by
  cases x with
  | closed => exact ⟨_, List.mem_singleton.mpr rfl, by decide⟩
  | opened => exact absurd rfl h
  | merge =>
    refine ⟨_, List.mem_singleton.mpr rfl, ?_⟩
    split <;> decide

/-- The item of lane 0, where a gantry has one, is the first. -/
theorem onLane_zero {α : Type} {d : GantryDesc} {items : List α} {a : α} (h : onLane d items 0 = some a) :
    d.shoulder = true ∧ items.head? = some a := by
  unfold onLane GantryDesc.signedLanes at h
  obtain ⟨⟨n, b⟩, found, rfl⟩ := Option.map_eq_some_iff.mp h
  cases hd : d.shoulder with
  | false =>
    rw [hd] at found
    have zero := List.find?_some found
    have := List.of_mem_zip (List.mem_of_find?_eq_some found)
    simp only [beq_iff_eq] at zero
    simp [zero] at this
  | true =>
    refine ⟨rfl, ?_⟩
    rw [hd] at found
    cases items with
    | nil => simp at found
    | cons x xs =>
      have first : (0, x) = (n, b) := by simpa using found
      cases first
      rfl

/-- What the law of the shoulder asks of one gantry. -/
def State.shoulderDemand (s : State) (g : Nat) : Prop :=
  ∀ a ∈ s.demandedAspect g 0, a.rank < 2 → s.shoulder g = .opened

theorem State.shoulderDemandWf_iff (s : State) : s.ShoulderDemandWf ↔ s.OnVisited State.shoulderDemand := Iff.rfl

theorem State.demandedAspect_congr {s t : State} (tables : t.tables = s.tables) {g : Nat}
    (demanded : (t.deliveryRec g).demanded = (s.deliveryRec g).demanded) (lane : Nat) :
    t.demandedAspect g lane = s.demandedAspect g lane := by
  unfold State.demandedAspect
  rw [tables, demanded]

theorem State.shoulderDemand.congr {s t : State} {g : Nat} (k : s.shoulderDemand g) (tables : t.tables = s.tables)
    (demanded : (t.deliveryRec g).demanded = (s.deliveryRec g).demanded)
    (shoulder : s.shoulder g = .opened → t.shoulder g = .opened) : t.shoulderDemand g := by
  intro a ha low
  rw [State.demandedAspect_congr tables demanded] at ha
  exact shoulder (k a ha low)

theorem State.shoulderDemand.withPass (s : State) (p : Option Nat) (g : Nat) (h : s.shoulderDemand g) :
    (s.withPass p).shoulderDemand g := h

/-- A shoulder opened breaks no law of the shoulder. -/
theorem State.setShoulder_opened {s : State} {g x : Nat} (h : s.shoulder x = .opened) :
    (s.setShoulder g .opened).shoulder x = .opened := by
  rw [State.setShoulder_shoulder]
  split
  · rfl
  · exact h

theorem Move.keeps_shoulderDemand {s t : State} (m : Move s t) (shoulders : s.ShoulderWf) (k : s.ShoulderDemandWf) :
    t.ShoulderDemandWf := by
  rw [State.shoulderDemandWf_iff] at k ⊢
  have free := State.shoulderDemand.withPass
  cases m with
  | wasReset => exact .of_quiet rfl
  | started | activated => exact .entered (free _)
  | loaded t unconfigured => exact .of_quiet (State.signing_eq_false (.inl unconfigured))
  | unloaded => exact .of_quiet rfl
  | stopped | measured => exact .of_quiet rfl
  | restarted => exact .of_quiet (State.restarted_signing _ rfl)
  | passRequested h => exact .requestPass (free _) fun signing g hg visited _ => k signing g hg visited
  | roadAccepted id road => exact .requestPass (free _) fun signing g hg visited _ => k signing g hg visited
  | openingAccepted | openingMoved =>
    exact fun signing g hg visited => (k signing g hg visited).congr rfl rfl State.setShoulder_opened
  | closingStarted slot o h m =>
    refine .requestPass (free _) fun signing g hg visited beyond => (k signing g hg visited).congr rfl rfl fun e => ?_
    exact (State.setShoulder_shoulder_ne _ _ beyond.ne').trans e
  | closingMoved slot o f h m held phase front found =>
    obtain ⟨up, -⟩ := State.firstOpen_some found
    refine .requestPass (free _) fun signing g hg visited beyond => (k signing g hg visited).congr rfl rfl fun e => ?_
    refine (State.setShoulder_shoulder_ne _ _ beyond.ne').trans ?_
    exact (State.setShoulder_shoulder_ne (g := f) _ s (by omega)).trans e
  | closingEnded slot o f held phase front =>
    obtain ⟨⟨-, range, -⟩, -⟩ := shoulders.order held
    obtain ⟨-, last⟩ := range f front
    refine .requestPass (free _) fun signing g hg visited beyond => (k signing g hg visited).congr rfl rfl fun e => ?_
    exact (State.setShoulder_shoulder_ne _ _ (by omega)).trans e
  | recorded l readings =>
    exact fun signing g hg visited => (k signing g hg visited).congr rfl
      (congrArg Prod.fst (State.reading_eq readings g)) id
  | judged g r demand =>
    exact .judged (fun _ => free _) fun signing x hx visited _ =>
      (k signing x hx visited).congr rfl (State.setDelivery_demanded demand x) id
  | _ => exact k

/-- A visit demands on lane 0 no running aspect while the shoulder is not OPEN (R142). -/
theorem State.composed_shoulderDemand {s : State} {g : Nat} (h : g < s.composer.delivery.length) :
    (s.composed g).shoulderDemand g := by
  intro a ha low
  by_contra other
  unfold State.demandedAspect at ha
  rw [State.composed_deliveryRec_self h, State.composed_tables] at ha
  obtain ⟨signal, first⟩ := onLane_zero ha
  have shoulder : (s.decided g).shoulder g ≠ .opened := by
    intro e
    rw [State.shoulder, State.composed_closures] at other
    exact other e
  have lanes : ((s.decided g).composeLanes g).head? = some a := first
  unfold State.composeLanes at lanes
  rw [show (s.decided g).tables = s.tables from rfl, if_pos signal] at lanes
  obtain ⟨b, hb, high⟩ := shoulderAspect_rank
    (running := (List.range' 1 (s.tables.gantry g).lanes).map (fun l => (s.decided g).composeRunning g l
      (limitAspect (((s.decided g).gantryControl g).demanded.getD .nl)))) shoulder
  have := Aspect.rank_le_highest (last := limitAspect (((s.decided g).gantryControl g).demanded.getD .nl))
    (List.mem_append_right ((s.decided g).overlayAspect g 0).toList hb)
  rw [Option.some.inj lanes] at this
  omega

theorem State.composed_shoulderDemandWf {s : State} {g : Nat} (tables : s.tables.Wf) (shape : s.ShapeWf)
    (pass : s.composer.pass = some g) (k : s.ShoulderDemandWf) : (s.composed g).ShoulderDemandWf := by
  obtain ⟨-, -, -, delivery, -⟩ := shape
  obtain ⟨-, -, ⟨gantries, -⟩, -⟩ := tables
  intro signing x hx visited
  rw [State.composed_signing] at signing
  rw [State.composed_gantryCount] at hx
  rcases (State.composed_visited.mp visited).eq_or_lt with rfl | beyond
  · exact State.composed_shoulderDemand (delivery.symm ▸ lt_of_lt_of_le hx gantries)
  · refine State.shoulderDemand.congr (k signing x hx ((State.visited_beyond pass).mpr beyond)) (s.composed_tables g)
      (by rw [State.composed_deliveryRec_ne beyond.ne']) fun e => ?_
    rw [State.shoulder, State.composed_closures]
    exact e

/-- Settles O56: only an opening makes a shoulder OPEN, each move of a closing requests a pass from the gantries it
closes, and a visit demands no running aspect on lane 0 of a shoulder that is not OPEN. -/
theorem shoulderAspectLaw : Obligations.ShoulderAspectLaw := by
  unfold Obligations.ShoulderAspectLaw
  intro s t _ shape tables orders places shoulders _ demand h
  obtain ⟨-, -, -, keep⟩ := step_keeps (P := fun s => s.GroundWf ∧ s.tables.Wf ∧ s.ShoulderWf ∧ s.ShoulderDemandWf)
    (fun s t m k => by
      obtain ⟨ground, tables, shoulders, demand⟩ := k
      exact ⟨m.keeps_ground ground, m.keeps_tables tables, m.keeps_shoulders ground shoulders,
        m.keeps_shoulderDemand shoulders demand⟩)
    (fun s g pass k => by
      obtain ⟨⟨shape, rest⟩, tables, shoulders, demand⟩ := k
      exact ⟨State.composed_groundWf g ⟨shape, rest⟩, (State.composed_tables g s).symm ▸ tables,
        State.composed_shoulderWf g shoulders, State.composed_shoulderDemandWf tables shape pass demand⟩) h
    ⟨⟨shape, orders, places⟩, tables, shoulders, demand⟩
  exact keep

end Sys2Proof.Machine
end

section
/-! SUPPORT. The laws of the demanded limit and of the cascade: what a passed TABLE CHECK says of the Display Set, what
the dwell decision can demand, and that every step keeps both laws (R16, R113 to R116). -/

namespace Sys2Proof.Machine

/-! ## Tables that have passed TABLE CHECK (R12, R13, R16) -/

/-- Each check of a TABLE CHECK that passes has found nothing. -/
theorem checks_eq_none {checks : List (Option CheckFault)}
    (h : ((List.range checks.length).zip checks).findSome? (fun x => x.2.map (fun f => (19 + x.1, f))) = none) :
    ∀ c ∈ checks, c = none := by
  intro c hc
  obtain ⟨i, hi, rfl⟩ := List.getElem_of_mem hc
  rw [List.findSome?_eq_none_iff] at h
  have inside : i < ((List.range checks.length).zip checks).length := by simpa using hi
  have pair := h _ (List.getElem_mem inside)
  rw [List.getElem_zip, Option.map_eq_none_iff] at pair
  exact pair

theorem Tables.crossCheck_eq_none {t : Tables} {trunk : Nat} (h : t.crossCheck trunk = none) :
    t.checkComplete = none ∧ t.checkDisplay = none := by
  have all := checks_eq_none h
  simp only [List.forall_mem_cons] at all
  obtain ⟨complete, -, -, -, -, -, -, -, -, display, -⟩ := all
  exact ⟨complete, display⟩

theorem firstHole_eq_none {α : Type} {places : List (Option α)} (h : firstHole places = none) :
    places ≠ [] ∧ ∀ o ∈ places, o.isSome = true := by
  unfold firstHole at h
  split at h
  · cases h
  next filled =>
    refine ⟨by simpa using filled, fun o ho => ?_⟩
    have := List.findIdx?_eq_none_iff.mp h o ho
    simpa using this

/-- Tables that have passed TABLE CHECK hold Segment Parameters within their ranges (R5, R13). -/
theorem Tables.par_wf {t : Tables} {trunk : Nat} (wf : t.Wf) (h : t.crossCheck trunk = none) : t.par.Wf := by
  obtain ⟨⟨-, records⟩, -⟩ := wf
  obtain ⟨complete, -⟩ := Tables.crossCheck_eq_none h
  unfold Tables.checkComplete at complete
  rw [Option.or_eq_none_iff, Option.map_eq_none_iff] at complete
  obtain ⟨filled, present⟩ := firstHole_eq_none complete.1
  cases e : t.params with
  | nil => exact absurd e filled
  | cons o rest =>
    have here : o ∈ t.params := e ▸ List.mem_cons_self
    obtain ⟨p, rfl⟩ := Option.isSome_iff_exists.mp (present o here)
    have par : t.par = p := by rw [Tables.par, e]; rfl
    exact par ▸ records _ here p rfl

theorem firstBad_eq_none {sect n : Nat} {bad : Nat → Bool} (h : firstBad sect n bad = none) : ∀ i < n, bad i = false := by
  intro i hi
  unfold firstBad at h
  rw [Option.map_eq_none_iff, List.find?_eq_none] at h
  simpa using h i (List.mem_range.mpr hi)

/-- Every gantry's Gmax is NL or a Display Set member (R16); a gantry without a record has NL. -/
theorem Tables.displays_gmax {t : Tables} {trunk : Nat} (h : t.crossCheck trunk = none) (g : Nat) :
    t.par.displays (t.gantry g).gmax = true := by
  obtain ⟨-, display⟩ := Tables.crossCheck_eq_none h
  unfold Tables.checkDisplay at display
  rw [Option.or_eq_none_iff] at display
  by_cases inside : g < t.gantries.length
  · have := firstBad_eq_none display.1 g inside
    simp only [Bool.not_eq_false', Bool.and_eq_true] at this
    exact this.1
  · rw [Tables.gantry, List.getD_eq_default _ _ (Nat.le_of_not_lt inside)]
    rfl

/-! ## The Display Set (R7) -/

theorem Params.Wf.displaySet {p : Params} (h : p.Wf) : p.displaySet ≠ [] ∧ p.displaySet.Pairwise (· < ·) := by
  obtain ⟨-, -, -, -, -, ⟨filled, -, -, sorted⟩, -⟩ := h
  exact ⟨filled, sorted⟩

/-- The smallest member of the Display Set is a member, and below no limit that is displayed. -/
theorem Params.Wf.head_le {p : Params} (h : p.Wf) :
    p.displaySet.headD 0 ∈ p.displaySet ∧ ∀ l, p.displays l = true → p.displaySet.headD 0 ≤ p.value l := by
  obtain ⟨filled, sorted⟩ := h.displaySet
  cases e : p.displaySet with
  | nil => exact absurd e filled
  | cons a rest =>
    rw [e] at sorted
    have least : ∀ v ∈ a :: rest, a ≤ v := by
      intro v hv
      rcases List.mem_cons.mp hv with rfl | hv
      · exact le_rfl
      · exact (List.rel_of_pairwise_cons sorted hv).le
    refine ⟨List.mem_cons_self, fun l hl => ?_⟩
    cases l with
    | kmh v =>
      have member : v ∈ p.displaySet := by simpa [Params.displays] using hl
      exact least v (e ▸ member)
    | nl =>
      have top : p.vtop ∈ p.displaySet := by
        rw [Params.vtop, List.getLastD_eq_getLast?, List.getLast?_eq_some_getLast filled]
        exact List.getLast_mem filled
      exact (least _ (e ▸ top)).trans (Nat.le_add_right _ _)

/-- The candidate within a ceiling is displayed; it is within the ceiling, or the smallest member above it (R115). -/
theorem Params.Wf.candidate {p : Params} (h : p.Wf) (ceiling : Nat) : p.displays (p.candidate ceiling) = true ∧
    (p.value (p.candidate ceiling) ≤ ceiling ∨
      ceiling < p.displaySet.headD 0 ∧ p.candidate ceiling = .kmh (p.displaySet.headD 0)) := by
  obtain ⟨filled, sorted⟩ := h.displaySet
  obtain ⟨member, least⟩ := h.head_le
  obtain ⟨all, within⟩ := p.candidate_spec ceiling
  by_cases open_road : p.vtop + 10 ≤ ceiling
  · rw [all open_road]
    exact ⟨rfl, .inl open_road⟩
  · obtain ⟨v, hv, e, some_within, none_within⟩ := within (Nat.lt_of_not_le open_road) filled sorted
    rw [e]
    have shown : p.displays (.kmh v) = true := by simpa [Params.displays] using hv
    refine ⟨shown, ?_⟩
    by_cases reachable : p.displaySet.headD 0 ≤ ceiling
    · exact .inl (some_within ⟨_, member, reachable⟩).1
    · have above : ∀ w ∈ p.displaySet, ceiling < w := fun w hw =>
        lt_of_lt_of_le (Nat.lt_of_not_le reachable) (least (.kmh w) (by simpa [Params.displays] using hw))
      have smallest : v = p.displaySet.headD 0 :=
        le_antisymm (none_within above _ member) (least (.kmh v) shown)
      exact .inr ⟨Nat.lt_of_not_le reachable, by rw [smallest]⟩

/-! ## The dwell decision (R116) -/

/-- The dwell decision demands the candidate, or holds a demanded limit below it. -/
theorem GantryControl.settleDwell_cases (p : Params) (dwell : Nat) (candidate : Limit) (c : GantryControl) :
    (c.settleDwell p dwell candidate).demanded = some candidate ∨
      ∃ l, c.demanded = some l ∧ (c.settleDwell p dwell candidate).demanded = some l ∧
        p.value l < p.value candidate := by
  unfold GantryControl.settleDwell
  dsimp only
  split
  · exact .inl rfl
  next l was =>
    split
    next rise => exact .inr ⟨l, was, was, rise.1⟩
    · exact .inl rfl

/-- The state after the effective sites of a gantry are settled, in which its demanded limit is decided. -/
def State.sited (g : Nat) (s : State) : State := s.setRegister (s.settledRegister g)

/-- The candidate that a visit settles. -/
def State.visitCandidate (g : Nat) (s : State) : Limit := (s.sited g).candidate g ((s.sited g).closureCaps g)

theorem State.sited_cascadeBound (g : Nat) (s : State) : (s.sited g).cascadeBound g = s.cascadeBound g := by
  unfold State.cascadeBound
  rw [State.governor_congr (s := s) (t := s.sited g) rfl fun _ _ => rfl]
  rfl

/-- What a visit demands of its gantry's limit (R115, R116). -/
theorem State.composed_demanded_self {s : State} {g : Nat} (h : g < s.control.length) :
    ((s.composed g).gantryControl g).demanded = some (s.visitCandidate g) ∨
      ∃ l, (s.gantryControl g).demanded = some l ∧ ((s.composed g).gantryControl g).demanded = some l ∧
        s.par.value l < s.par.value (s.visitCandidate g) := by
  rw [State.composed_control, State.decided_control_self g s h]
  exact GantryControl.settleDwell_cases _ _ _ _

theorem State.composed_demanded_ne {s : State} {g x : Nat} (h : x ≠ g ∨ s.control.length ≤ g) :
    ((s.composed g).gantryControl x).demanded = (s.gantryControl x).demanded := by
  rw [State.composed_control, State.decided_control_other s h]

/-- The candidate's ceiling is the least of the local limit, itself within Gmax, and the cascade bound (R113, R115). -/
theorem State.visitCandidate_spec {s : State} (wf : s.par.Wf) (g : Nat) :
    s.par.displays (s.visitCandidate g) = true ∧
      ∃ ceiling ≤ s.par.value (s.tables.gantry g).gmax, (∀ b ∈ s.cascadeBound g, ceiling ≤ b) ∧
        (s.par.value (s.visitCandidate g) ≤ ceiling ∨
          ceiling < s.par.displaySet.headD 0 ∧ s.visitCandidate g = .kmh (s.par.displaySet.headD 0)) := by
  have gmax : s.par.value ((s.sited g).localLimit g ((s.sited g).closureCaps g)) ≤
      s.par.value (s.tables.gantry g).gmax :=
    (s.par.least_spec _ _).1 _ (List.mem_cons_of_mem _ List.mem_cons_self)
  cases bound : s.cascadeBound g with
  | none =>
    have e : s.visitCandidate g =
        s.par.candidate (s.par.value ((s.sited g).localLimit g ((s.sited g).closureCaps g))) := by
      unfold State.visitCandidate State.candidate
      rw [State.sited_cascadeBound, bound]
      rfl
    rw [e]
    obtain ⟨shown, within⟩ := wf.candidate (s.par.value ((s.sited g).localLimit g ((s.sited g).closureCaps g)))
    exact ⟨shown, _, gmax, nofun, within⟩
  | some b =>
    have e : s.visitCandidate g =
        s.par.candidate (min (s.par.value ((s.sited g).localLimit g ((s.sited g).closureCaps g))) b) := by
      unfold State.visitCandidate State.candidate
      rw [State.sited_cascadeBound, bound]
      rfl
    rw [e]
    obtain ⟨shown, within⟩ := wf.candidate (min (s.par.value ((s.sited g).localLimit g ((s.sited g).closureCaps g))) b)
    refine ⟨shown, _, (min_le_left _ _).trans gmax, ?_, within⟩
    rintro c ⟨⟩
    exact min_le_right _ _

/-! ## The demanded limit (R115) -/

/-- The demanded limits of a state whose tables have been loaded afresh, where there is no demand. -/
theorem State.DemandWf.of_none {s : State} (h : ∀ c ∈ s.control, c.demanded = none) : s.DemandWf := by
  intro g _ l hl
  by_cases inside : g < s.control.length
  · rw [s.gantryControl_of_lt inside, h _ (List.getElem_mem inside)] at hl
    cases hl
  · rw [State.gantryControl, List.getD_eq_default _ _ (Nat.le_of_not_lt inside)] at hl
    cases hl

theorem State.DemandWf.of_within {s t : State} (k : s.DemandWf) (within : ∀ g, t.DemandsWithin s g)
    (tables : t.tables = s.tables) : t.DemandWf := by
  intro g hg l hl
  rw [State.par, tables]
  exact k g hg l (within g l hl)

theorem State.requestPass_tables (h : Nat) (s : State) : (s.requestPass h).tables = s.tables :=
  State.requestPass_keeps (P := fun t => t.tables = s.tables) h fun _ => rfl

/-- Only a load and a hardware reset change the tables. -/
theorem Move.tables {s t : State} (m : Move s t) : t.tables = s.tables ∨ s.mode = .unconfigured ∧ t.control = s.control ∨
    ∀ c ∈ t.control, c.demanded = none := by
  cases m with
  | wasReset | unloaded => exact .inr (.inr GantryControl.forall_reset)
  | loaded t unconfigured => exact .inr (.inl ⟨unconfigured, rfl⟩)
  | started | activated | passRequested | roadAccepted | closingStarted | closingMoved | closingEnded =>
    exact .inl (State.requestPass_tables _ _)
  | judged g r => exact .inl (State.judged_keeps (P := fun t => t.tables = s.tables) g r fun _ => rfl)
  | _ => exact .inl rfl

theorem Move.keeps_demand {s t : State} (m : Move s t) (quiet : s.QuietWf) (k : s.DemandWf) : t.DemandWf := by
  rcases m.tables with same | ⟨unconfigured, same⟩ | none
  · exact k.of_within m.demanded same
  · obtain ⟨-, -, control, -⟩ := quiet (State.signing_eq_false (.inl unconfigured))
    exact .of_none (same ▸ control)
  · exact .of_none none

/-- The parameters in use are within their ranges while the segment signs. -/
theorem State.par_wf {s : State} (checked : s.TablesChecked) (tables : s.tables.Wf) (signing : s.signing = true) :
    s.par.Wf := by
  obtain ⟨-, -, passed⟩ := checked
  exact Tables.par_wf tables (passed (State.configured_of_signing signing))

theorem State.composed_demandWf {s : State} {g : Nat} (checked : s.TablesChecked) (tables : s.tables.Wf)
    (signing : s.signing = true) (k : s.DemandWf) : (s.composed g).DemandWf := by
  have wf := State.par_wf checked tables signing
  obtain ⟨-, -, passed⟩ := checked
  have shown := Tables.displays_gmax (passed (State.configured_of_signing signing))
  intro x hx l hl
  rw [State.composed_par, State.composed_tables]
  by_cases here : x = g ∧ g < s.control.length
  · obtain ⟨rfl, inside⟩ := here
    rcases State.composed_demanded_self inside with e | ⟨m, was, e, -⟩
    · cases e.symm.trans hl
      obtain ⟨displayed, ceiling, gmax, -, within | ⟨-, smallest⟩⟩ := State.visitCandidate_spec wf x
      · exact ⟨displayed, within.trans gmax⟩
      · refine ⟨displayed, ?_⟩
        rw [smallest]
        exact wf.head_le.2 _ (shown x)
    · cases e.symm.trans hl
      exact k x hx _ was
  · rw [State.composed_demanded_ne (by omega)] at hl
    exact k x hx l hl

/-- What the laws of the demanded limit and of the cascade build on. -/
abbrev State.DemandGroundWf (s : State) : Prop := s.TablesChecked ∧ s.ShapeWf ∧ s.tables.Wf ∧ s.QuietWf ∧ s.DemandWf

theorem State.composed_tablesChecked {s : State} (g : Nat) (k : s.TablesChecked) : (s.composed g).TablesChecked := by
  obtain ⟨q, e, -⟩ := s.composed_spec g
  rw [e]
  exact k

theorem Move.keeps_demandGround {s t : State} (m : Move s t) (k : s.DemandGroundWf) : t.DemandGroundWf := by
  obtain ⟨checked, shape, tables, quiet, demand⟩ := k
  exact ⟨m.keeps_tablesChecked checked, m.keeps_shape shape, m.keeps_tables tables, m.keeps_quiet quiet,
    m.keeps_demand quiet demand⟩

theorem State.composed_demandGroundWf {s : State} {g : Nat} (pass : s.composer.pass = some g) (k : s.DemandGroundWf) :
    (s.composed g).DemandGroundWf := by
  obtain ⟨checked, shape, tables, quiet, demand⟩ := k
  exact ⟨State.composed_tablesChecked g checked, State.composed_shapeWf g shape,
    (State.composed_tables g s).symm ▸ tables, State.composed_quietWf quiet pass,
    State.composed_demandWf checked tables (State.signing_of_pass quiet pass) demand⟩

/-- Settles O54: a visit demands a candidate from the Display Set within Gmax or holds the limit before, and no other
move sets a limit or changes the tables under one. -/
theorem demandedLimitLaw : Obligations.DemandedLimitLaw := by
  unfold Obligations.DemandedLimitLaw
  intro s t flag checked shape tables quiet demand h
  obtain ⟨-, -, -, -, keep⟩ := step_keeps (P := State.DemandGroundWf) (fun _ _ m k => m.keeps_demandGround k)
    (fun _ _ pass k => State.composed_demandGroundWf pass k) h ⟨⟨flag, checked⟩, shape, tables, quiet, demand⟩
  exact keep

/-! ## The cascade (R114, R115) -/

/-- What the law of the cascade asks of one gantry. -/
def State.withinCascade (s : State) (g : Nat) : Prop :=
  ∀ l ∈ (s.gantryControl g).demanded, ∀ b ∈ s.cascadeBound g,
    s.par.value l ≤ b ∨ (b < s.par.displaySet.headD 0 ∧ l = .kmh (s.par.displaySet.headD 0))

theorem State.cascadeWf_iff (s : State) : s.CascadeWf ↔ s.OnVisited State.withinCascade := Iff.rfl

theorem State.governorFrom_lt {s : State} {h : Nat} : ∀ {fuel x : Nat}, s.governorFrom fuel x = some h → x < h
  | fuel + 1, x, e => by
    unfold State.governorFrom at e
    split at e
    · cases e
    · split at e
      · cases e
      · split at e
        · exact (Nat.lt_succ_self x).trans (State.governorFrom_lt e)
        · cases e
          exact Nat.lt_succ_self x

/-- The bound of a gantry reads what lies downstream of it alone (R114). -/
theorem State.cascadeBound_congr {s t : State} {g : Nat} (tables : t.tables = s.tables)
    (out : ∀ h, g < h → (t.deliveryRec h).state.out = (s.deliveryRec h).state.out)
    (demanded : ∀ h, g < h → (t.gantryControl h).demanded = (s.gantryControl h).demanded) :
    t.cascadeBound g = s.cascadeBound g := by
  unfold State.cascadeBound
  rw [State.governor_congr tables out, State.par, tables, State.par]
  cases e : s.governor g with
  | none => rfl
  | some h =>
    dsimp only
    rw [demanded h (State.governorFrom_lt e)]

theorem State.withinCascade.congr {s t : State} {g : Nat} (k : s.withinCascade g) (tables : t.tables = s.tables)
    (out : ∀ h, g < h → (t.deliveryRec h).state.out = (s.deliveryRec h).state.out)
    (demanded : ∀ h, g ≤ h → (t.gantryControl h).demanded = (s.gantryControl h).demanded) : t.withinCascade g := by
  intro l hl b hb
  rw [demanded g le_rfl] at hl
  rw [State.cascadeBound_congr tables out fun h lt => demanded h lt.le] at hb
  rw [State.par, tables]
  exact k l hl b hb

theorem State.withinCascade.withPass (s : State) (p : Option Nat) (g : Nat) (k : s.withinCascade g) :
    (s.withPass p).withinCascade g := k.congr rfl (fun _ _ => rfl) fun _ _ => rfl

/-- A change outside the tables, the delivery states and the demanded limits keeps the law of the cascade. -/
theorem State.OnVisited.cascade {s t : State} (k : s.OnVisited State.withinCascade) (signing : t.signing = s.signing)
    (tables : t.tables = s.tables) (pass : t.composer.pass = s.composer.pass)
    (out : ∀ h, (t.deliveryRec h).state.out = (s.deliveryRec h).state.out)
    (demanded : ∀ h, (t.gantryControl h).demanded = (s.gantryControl h).demanded) :
    t.OnVisited State.withinCascade := by
  intro now g hg visited
  have count : t.gantryCount = s.gantryCount := congrArg (fun t : Tables => t.gantries.length) tables
  have before : s.visited g = true := by rwa [State.visited, pass, ← State.visited] at visited
  exact (k (signing ▸ now) g (count ▸ hg) before).congr tables (fun h _ => out h) fun h _ => demanded h

theorem GantryControl.demanded_eq {s t : State}
    (demands : t.control.map GantryControl.demanded = s.control.map GantryControl.demanded) (g : Nat) :
    (t.gantryControl g).demanded = (s.gantryControl g).demanded := by
  have at_g : ∀ u : State, (u.gantryControl g).demanded = ((u.control.map GantryControl.demanded)[g]?).getD none := by
    intro u
    simp only [State.gantryControl, List.getD_eq_getElem?_getD, List.getElem?_map]
    cases u.control[g]? <;> rfl
  rw [at_g, at_g, demands]

theorem Move.keeps_cascade {s t : State} (m : Move s t) (k : s.CascadeWf) : t.CascadeWf := by
  rw [State.cascadeWf_iff] at k ⊢
  have free := State.withinCascade.withPass
  have same : ∀ h, (s.gantryControl h).demanded = (s.gantryControl h).demanded := fun _ => rfl
  cases m with
  | wasReset => exact .of_quiet rfl
  | started | activated => exact .entered (free _)
  | loaded t unconfigured => exact .of_quiet (State.signing_eq_false (.inl unconfigured))
  | unloaded => exact .of_quiet rfl
  | stopped | measured => exact .of_quiet rfl
  | restarted => exact .of_quiet (State.restarted_signing _ rfl)
  | controlled l demands =>
    exact k.cascade rfl rfl rfl (fun _ => rfl) (GantryControl.demanded_eq demands)
  | recorded l readings =>
    exact k.cascade rfl rfl rfl (fun h => congrArg (fun x => x.2.1) (State.reading_eq readings h)) fun _ => rfl
  | passRequested | roadAccepted | closingStarted | closingMoved | closingEnded =>
    exact .requestPass (free _) fun signing g hg visited _ =>
      (k signing g hg visited).congr rfl (fun _ _ => rfl) fun _ _ => rfl
  | judged g r =>
    exact .judged (fun _ => free _) fun signing x hx visited beyond =>
      (k signing x hx visited).congr rfl
        (fun h lt => by rw [s.setDelivery_deliveryRec_of_ne r (beyond.trans lt).ne']) fun _ _ => rfl
  | _ => exact k.cascade rfl rfl rfl (fun _ => rfl) fun _ => rfl

theorem State.composed_cascadeWf {s : State} {g : Nat} (ground : s.DemandGroundWf) (pass : s.composer.pass = some g)
    (k : s.CascadeWf) : (s.composed g).CascadeWf := by
  obtain ⟨checked, ⟨-, -, control, -⟩, tables, quiet, demand⟩ := ground
  have wf := State.par_wf checked tables (State.signing_of_pass quiet pass)
  obtain ⟨-, -, ⟨gantries, -⟩, -⟩ := tables
  intro signing x hx visited
  rw [State.composed_signing] at signing
  rw [State.composed_gantryCount] at hx
  have downstream : ∀ h, g < h → ((s.composed g).gantryControl h).demanded = (s.gantryControl h).demanded :=
    fun h lt => State.composed_demanded_ne (.inl lt.ne')
  rcases (State.composed_visited.mp visited).eq_or_lt with rfl | beyond
  · intro l hl b hb
    rw [State.cascadeBound_congr (s.composed_tables g) (fun h _ => State.composed_out g h s) downstream] at hb
    rw [State.composed_par]
    obtain ⟨-, ceiling, -, bounded, within⟩ := State.visitCandidate_spec wf g
    have inside : g < Config.maxGantries := lt_of_lt_of_le hx gantries
    by_cases reachable : b < s.par.displaySet.headD 0
    · rcases State.composed_demanded_self (control.symm ▸ inside) with e | ⟨m, was, e, below⟩
      · cases e.symm.trans hl
        rcases within with within | ⟨-, smallest⟩
        · exact .inl (within.trans (bounded b hb))
        · exact .inr ⟨reachable, smallest⟩
      · cases e.symm.trans hl
        rcases within with within | ⟨-, smallest⟩
        · exact .inl (below.le.trans (within.trans (bounded b hb)))
        · rw [smallest] at below
          exact absurd below (Nat.not_lt.mpr (wf.head_le.2 _ (demand g inside _ was).1))
    · have high : s.par.value (s.visitCandidate g) ≤ b := by
        rcases within with within | ⟨-, smallest⟩
        · exact within.trans (bounded b hb)
        · rw [smallest]
          exact Nat.le_of_not_lt reachable
      rcases State.composed_demanded_self (control.symm ▸ inside) with e | ⟨m, was, e, below⟩
      · cases e.symm.trans hl
        exact .inl high
      · cases e.symm.trans hl
        exact .inl (below.le.trans high)
  · exact State.withinCascade.congr (k signing x hx ((State.visited_beyond pass).mpr beyond)) (s.composed_tables g)
      (fun h _ => State.composed_out g h s) fun h le => downstream h (beyond.trans_le le)

/-- Settles O55: a visit demands at most the bound of its gantry, which reads what lies downstream alone, and a change
of a delivery state requests a pass from its gantry. -/
theorem cascadeLaw : Obligations.CascadeLaw := by
  unfold Obligations.CascadeLaw
  intro s t flag checked shape tables quiet demand cascade h
  have keep := step_keeps (P := fun s => s.DemandGroundWf ∧ s.CascadeWf)
    (fun _ _ m k => ⟨m.keeps_demandGround k.1, m.keeps_cascade k.2⟩)
    (fun _ _ pass k => ⟨State.composed_demandGroundWf pass k.1, State.composed_cascadeWf k.1 pass k.2⟩) h
    ⟨⟨⟨flag, checked⟩, shape, tables, quiet, demand⟩, cascade⟩
  exact keep.2

end Sys2Proof.Machine
end

section
/-! SUPPORT. The law of closure protection: what a visit composes on the lanes of a closure signed at its gantry, and
that every step keeps the closures in force protected or marked (R125, R127, R142). -/

namespace Sys2Proof.Machine

/-! ## The composed aspects, lane by lane (R142) -/

/-- The aspects of the running lanes of a gantry. -/
def State.runningAspects (g : Nat) (s : State) : List Aspect :=
  (List.range' 1 (s.tables.gantry g).lanes).map
    (fun l => s.composeRunning g l (limitAspect ((s.gantryControl g).demanded.getD .nl)))

/-- The composed aspect of a signed lane of a gantry. -/
def State.laneAspect (g l : Nat) (s : State) : Aspect :=
  highest ((s.overlayAspect g l).toList ++
    if l = 0 then (shoulderAspect (s.shoulder g) (s.runningAspects g)).toList else [])
    (limitAspect ((s.gantryControl g).demanded.getD .nl))

theorem State.composeRunning_eq {g l : Nat} {s : State} (h : l ≠ 0) :
    s.composeRunning g l (limitAspect ((s.gantryControl g).demanded.getD .nl)) = s.laneAspect g l := by
  rw [State.laneAspect, if_neg h, List.append_nil]
  rfl

theorem State.composeLanes_eq (g : Nat) (s : State) :
    s.composeLanes g = (s.tables.gantry g).signedLanes.map (fun l => s.laneAspect g l) := by
  have running : s.runningAspects g = (List.range' 1 (s.tables.gantry g).lanes).map (fun l => s.laneAspect g l) := by
    refine List.map_congr_left fun l hl => State.composeRunning_eq ?_
    rw [List.mem_range'_1] at hl
    omega
  show (if (s.tables.gantry g).shoulder then
      highest ((s.overlayAspect g 0).toList ++ (shoulderAspect (s.shoulder g) (s.runningAspects g)).toList)
        (limitAspect ((s.gantryControl g).demanded.getD .nl)) :: s.runningAspects g
    else s.runningAspects g) = _
  unfold GantryDesc.signedLanes
  rw [List.map_append, ← running]
  cases (s.tables.gantry g).shoulder <;> rfl

/-- What a list aligned with the signed lanes holds for one of them. -/
theorem onLane_map {α : Type} {d : GantryDesc} {l : Nat} (f : Nat → α) (h : l ∈ d.signedLanes) :
    onLane d (d.signedLanes.map f) l = some (f l) := by
  unfold onLane
  suffices ∀ ls : List Nat, l ∈ ls → ((ls.zip (ls.map f)).find? (fun x => x.1 == l)).map Prod.snd = some (f l) from
    this _ h
  intro ls
  induction ls with
  | nil => nofun
  | cons a rest ih =>
    intro hl
    rw [List.map_cons, List.zip_cons_cons, List.find?_cons]
    by_cases here : a = l
    · simp [here]
    · simp only [beq_eq_false_iff_ne.mpr here]
      exact ih ((List.mem_cons.mp hl).resolve_left (Ne.symm here))

/-- An overlay CLOSED is composed as CLOSED. -/
theorem State.laneAspect_closed {s : State} {g l : Nat} (h : s.overlayAspect g l = some .closed) :
    s.laneAspect g l = .closed := by
  refine Aspect.eq_closed_of_rank (Aspect.rank_le_highest (a := .closed) ?_)
  rw [h]
  exact List.mem_append_left _ (List.mem_singleton.mpr rfl)

/-! ## The overlay of a closure at its effective site (R120, R127) -/

theorem State.mem_footprint {s : State} {r : RoadClosure} {g l : Nat} :
    (g, l) ∈ s.footprint r ↔ (r.site - 3 ≤ g ∧ g ≤ r.site) ∧ l ∈ r.lanesAt (s.tables.gantry g) := by
  unfold State.footprint
  rw [List.mem_flatMap]
  constructor
  · rintro ⟨h, hh, hl⟩
    obtain ⟨m, hm, e⟩ := List.mem_map.mp hl
    cases e
    rw [List.mem_range'_1] at hh
    exact ⟨by omega, hm⟩
  · rintro ⟨hg, hl⟩
    exact ⟨g, List.mem_range'_1.mpr (by omega), List.mem_map.mpr ⟨l, hl, rfl⟩⟩

theorem RoadClosure.lanesAt_subset (r : RoadClosure) (d : GantryDesc) : r.lanesAt d ⊆ d.signedLanes := by
  unfold RoadClosure.lanesAt
  split
  · exact List.filter_sublist.subset
  · exact List.Subset.refl _

/-- The lanes of a gantry are those of R9. -/
theorem Tables.signedLanes_lt {t : Tables} (wf : t.Wf) {g l : Nat} (h : l ∈ (t.gantry g).signedLanes) :
    l < Config.maxLanes := by
  have few : (t.gantry g).lanes ≤ 5 := by
    obtain ⟨-, -, ⟨-, records⟩, -⟩ := wf
    unfold Tables.gantry
    rw [List.getD_eq_getElem?_getD]
    cases e : t.gantries[g]? with
    | none => exact Nat.zero_le _
    | some o =>
      cases o with
      | none => exact Nat.zero_le _
      | some d =>
        obtain ⟨-, ⟨-, lanes⟩, -⟩ := records _ (List.mem_of_getElem? e) d rfl
        exact lanes
  unfold GantryDesc.signedLanes at h
  rcases List.mem_append.mp h with h | h
  · split at h
    · rw [List.mem_singleton.mp h]
      decide
    · cases h
  · rw [List.mem_range'_1] at h
    show l < 6
    omega

theorem ClosureUnit.road_of_mem {u : ClosureUnit} (once : u.ids.Nodup) {c : Closure} {r : RoadClosure}
    (hc : c ∈ u.register) (body : c.body = .road r) : u.road c.id = some r := by
  unfold ClosureUnit.road
  cases found : u.register.find? (fun x => x.id == c.id) with
  | none => exact absurd (List.find?_eq_none.mp found c hc) (by simp)
  | some d =>
    have same := List.find?_some found
    cases Closure.eq_of_id once (List.mem_of_find?_eq_some found) hc (by simpa using same)
    simp [body]

/-- A closure contributes CLOSED on its lanes from its effective site to its site (R127), so that the overlay there is
CLOSED whatever the others contribute. -/
theorem State.overlayAspect_closed {s : State} {r : RoadClosure} {g l : Nat} (overlays : s.OverlayWf)
    (once : s.closures.ids.Nodup) (held : r ∈ s.closures.roads) (covers : r.effective ≤ g ∧ g ≤ r.site)
    (near : r.site - 3 ≤ g) (lane : l ∈ r.lanesAt (s.tables.gantry g)) (hg : g < Config.maxGantries)
    (hl : l < Config.maxLanes) : s.overlayAspect g l = some .closed := by
  obtain ⟨c, hc, body⟩ := ClosureUnit.mem_roads.mp held
  have listed : c.id ∈ s.closures.overlay g l := by
    rw [overlays g hg l hl, State.footprintIds_eq, List.mem_filterMap]
    refine ⟨c, hc, ?_⟩
    rw [State.covering, body]
    exact if_pos (State.mem_footprint.mpr ⟨⟨near, covers.2⟩, lane⟩)
  have closes : s.contribution r g l = some .closed := by
    unfold State.contribution
    rw [if_neg (by simpa using lane), if_pos covers]
  unfold State.overlayAspect
  refine if_pos ?_
  rw [List.contains_iff_mem, List.mem_filterMap]
  exact ⟨c.id, listed, by rw [ClosureUnit.road_of_mem once hc body]; exact closes⟩

/-! ## Closure protection (R125) -/

/-- What the law of closure protection asks for one closure. -/
def State.protects (s : State) (c : RoadClosure) : Prop :=
  c.unprotected = false → (s.visited c.site = true → s.fit c c.effective = true) ∧
    (s.visited c.effective = true → ∀ l ∈ c.lanesAt (s.tables.gantry c.effective),
      s.demandedAspect c.effective l = some .closed)

theorem State.protectionWf_iff (s : State) :
    s.ProtectionWf ↔ (s.signing = true → ∀ c ∈ s.closures.roads, s.protects c) := Iff.rfl

theorem State.fit_congr {s t : State} {c : RoadClosure} {g : Nat} (tables : t.tables = s.tables)
    (out : (t.deliveryRec g).state.out = (s.deliveryRec g).state.out)
    (failed : (t.deliveryRec g).failedLanes = (s.deliveryRec g).failedLanes) : t.fit c g = s.fit c g := by
  unfold State.fit
  dsimp only
  rw [tables, out, failed]

/-- A change that no gantry visited can tell keeps a closure protected. -/
theorem State.protects.congr {s t : State} {c : RoadClosure} (k : s.protects c) (tables : t.tables = s.tables)
    (visited : ∀ g, t.visited g = true → s.visited g = true)
    (fit : t.visited c.site = true → t.fit c c.effective = s.fit c c.effective)
    (demanded : ∀ g, (t.deliveryRec g).demanded = (s.deliveryRec g).demanded) : t.protects c := by
  intro marked
  obtain ⟨sound, signed⟩ := k marked
  refine ⟨fun h => (fit h).trans (sound (visited _ h)), fun h l hl => ?_⟩
  rw [State.demandedAspect_congr tables (demanded _)]
  exact signed (visited _ h) l (tables ▸ hl)

/-- While no pass has come to its site, and none to its effective site, a closure is protected. -/
theorem State.protects.of_unvisited {s : State} {c : RoadClosure} (site : s.visited c.site = false)
    (effective : s.visited c.effective = false) : s.protects c :=
  fun _ => ⟨fun h => absurd (site.symm.trans h) (by decide), fun h => absurd (effective.symm.trans h) (by decide)⟩

theorem State.visited_mono {s : State} {g h : Nat} (le : g ≤ h) (k : s.visited g = true) : s.visited h = true := by
  rw [State.visited_iff] at k ⊢
  exact fun n hn => (k n hn).trans_le le

/-- A pass requested from a closure's site, or downstream of it, has its site and its effective site still to visit. -/
theorem State.protects.of_requested {s : State} {h : Nat} {c : RoadClosure} (signing : s.signing = true)
    (site : c.site ≤ h) (near : c.effective ≤ c.site) : (s.requestPass h).protects c := by
  obtain ⟨p, e, -, covers⟩ := s.requestPass_spec h
  have unvisited : ∀ g ≤ h, (s.withPass p).visited g = false := by
    intro g le
    rw [Bool.eq_false_iff]
    intro visited
    have := (covers g visited).2 signing
    omega
  rw [e]
  exact .of_unvisited (unvisited _ site) (unvisited _ (near.trans site))

theorem State.protects.requestPass {s : State} {h : Nat} {c : RoadClosure} (k : s.protects c) :
    (s.requestPass h).protects c := by
  obtain ⟨p, e, -, covers⟩ := s.requestPass_spec h
  rw [e]
  exact k.congr rfl (fun g hg => (covers g hg).1) (fun _ => rfl) fun _ => rfl

theorem State.requestPass_frame (h : Nat) (s : State) :
    (s.requestPass h).signing = s.signing ∧ (s.requestPass h).closures = s.closures := by
  obtain ⟨p, e, -⟩ := s.requestPass_spec h
  rw [e]
  exact ⟨rfl, rfl⟩

/-- The law of closure protection after a pass request. -/
theorem State.requestPass_protection {s : State} {h : Nat}
    (k : s.signing = true → ∀ c ∈ s.closures.roads, (s.requestPass h).protects c) : (s.requestPass h).ProtectionWf := by
  obtain ⟨signing, closures⟩ := State.requestPass_frame h s
  rw [State.protectionWf_iff, signing, closures]
  exact k

/-- A state whose road closures, delivery records and passes are those of another. -/
theorem State.ProtectionWf.mono {s t : State} (k : s.ProtectionWf) (signing : t.signing = s.signing)
    (roads : t.closures.roads ⊆ s.closures.roads) (tables : t.tables = s.tables)
    (composer : t.composer.pass = s.composer.pass)
    (readings : t.composer.delivery.map DeliveryRec.reading = s.composer.delivery.map DeliveryRec.reading) :
    t.ProtectionWf := by
  rw [State.protectionWf_iff] at k ⊢
  intro now c hc
  have reading := State.reading_eq readings
  refine State.protects.congr (k (signing ▸ now) c (roads hc)) tables (fun g hg => ?_) (fun _ => ?_) fun g => ?_
  · rwa [State.visited, composer, ← State.visited] at hg
  · exact State.fit_congr tables (congrArg (fun x => x.2.1) (reading _)) (congrArg (fun x => x.2.2) (reading _))
  · exact congrArg Prod.fst (reading g)

/-- After a judgement a closure is protected: where its effective site was judged, its site is requested (R126). -/
theorem State.judged_protects {s : State} {g : Nat} {r : DeliveryRec} {c : RoadClosure} (signing : s.signing = true)
    (held : c ∈ s.closures.roads) (near : c.effective ≤ c.site ∧ c.site ≤ c.effective + 2)
    (demand : r.demanded = (s.deliveryRec g).demanded) (k : s.protects c) :
    ((s.setDelivery g r).requestSites g).protects c := by
  obtain ⟨p, e, -, covers⟩ := (s.setDelivery g r).requestSites_spec g
  rw [e]
  refine k.congr rfl (fun x hx => (covers x hx).1) (fun visited => ?_) (State.setDelivery_demanded demand)
  have elsewhere : c.effective ≠ g := fun here =>
    absurd ((covers _ visited).2 signing c held (by omega)) (lt_irrefl _)
  have same : ((s.setDelivery g r).withPass p).deliveryRec c.effective = s.deliveryRec c.effective :=
    s.setDelivery_deliveryRec_of_ne r elsewhere
  exact State.fit_congr rfl (by rw [same]) (by rw [same])

theorem State.requestSites_frame (g : Nat) (s : State) :
    (s.requestSites g).signing = s.signing ∧ (s.requestSites g).closures = s.closures := by
  obtain ⟨p, e, -⟩ := s.requestSites_spec g
  rw [e]
  exact ⟨rfl, rfl⟩

theorem Move.keeps_protection {s t : State} (m : Move s t) (places : s.PlacesWf) (k : s.ProtectionWf) :
    t.ProtectionWf := by
  obtain ⟨-, -, known, -⟩ := places
  have same : List.map DeliveryRec.reading s.composer.delivery = s.composer.delivery.map DeliveryRec.reading := rfl
  have quiet : ∀ u : State, u.signing = false → u.ProtectionWf := fun u h q => absurd (h.symm.trans q) (by decide)
  cases m with
  | wasReset => exact reset_protectionWf
  | stopped | measured | unloaded => exact quiet _ rfl
  | loaded t unconfigured => exact quiet _ (State.signing_eq_false (.inl unconfigured))
  | restarted => exact quiet _ (State.restarted_signing _ rfl)
  | started | activated =>
    refine State.requestPass_protection fun signing c hc => ?_
    obtain ⟨site, near, -⟩ := known c hc
    exact .of_requested signing (Nat.le_sub_one_of_lt site) near
  | passRequested h => exact State.requestPass_protection fun signing c hc => State.protects.requestPass (k signing c hc)
  | roadAccepted id road configured fresh room inside settled =>
    refine State.requestPass_protection fun signing c hc => ?_
    rw [ClosureUnit.roads_append (u := s.closures) rfl] at hc
    rcases List.mem_append.mp hc with hc | hc
    · exact State.protects.requestPass (s := s.withRoad id road) (k signing c hc)
    · rw [List.mem_singleton.mp hc]
      exact .of_requested signing le_rfl settled.le
  | roadCleared c r held =>
    exact k.mono rfl (ClosureUnit.subset_of_register List.filter_sublist.subset).1 rfl rfl rfl
  | openingAccepted id o =>
    refine k.mono rfl ?_ rfl rfl rfl
    rw [ClosureUnit.roads_append (u := s.closures) rfl]
    show s.closures.roads ++ [] ⊆ s.closures.roads
    rw [List.append_nil]
    exact List.Subset.refl _
  | reread | openingEnded | openingMoved => exact k.mono rfl (roads_putShoulder_subset rfl) rfl rfl rfl
  | closingStarted slot o h m | closingMoved slot o f h m =>
    exact State.requestPass_protection fun signing c hc =>
      State.protects.requestPass (State.protects.congr (k signing c (roads_putShoulder_subset (u := s.closures) rfl hc))
        rfl (fun _ => id) (fun _ => rfl) fun _ => rfl)
  | closingEnded slot o f =>
    refine State.requestPass_protection fun signing c hc => ?_
    have held := (ClosureUnit.subset_of_register (u := s.closures) List.filter_sublist.subset).1 hc
    exact State.protects.requestPass
      (State.protects.congr (k signing c held) rfl (fun _ => id) (fun _ => rfl) fun _ => rfl)
  | holdsTicked =>
    refine k.mono rfl ?_ rfl rfl rfl
    rw [roads_tick (u := s.closures) rfl]
    exact List.Subset.refl _
  | recorded l readings => exact k.mono rfl (List.Subset.refl _) rfl rfl readings
  | judged g r demand =>
    refine State.requestPass_protection fun signing c hc => State.protects.requestPass ?_
    obtain ⟨now, closures⟩ := State.requestSites_frame g (s.setDelivery g r)
    rw [now] at signing
    rw [closures] at hc
    exact State.judged_protects signing hc (known c hc).2 demand (k signing c hc)
  | _ => exact k

theorem State.composed_fit (c : RoadClosure) (g x : Nat) (s : State) : (s.composed g).fit c x = s.fit c x := by
  obtain ⟨d, e⟩ := s.composed_deliveryRec g x
  exact State.fit_congr (s.composed_tables g) (by rw [e]) (by rw [e])

theorem State.OrdersWf.closureIds {s : State} (h : s.OrdersWf) : s.closures.ids.Nodup := by
  obtain ⟨-, -, ids, -⟩ := h
  exact (List.nodup_append.mp ids).2.1

theorem State.PlacesWf.road {s : State} (h : s.PlacesWf) {c : RoadClosure} (hc : c ∈ s.closures.roads) :
    c.site < s.gantryCount ∧ c.effective ≤ c.site ∧ c.site ≤ c.effective + 2 := by
  obtain ⟨-, -, known, -⟩ := h
  exact known c hc

/-- A visit demands CLOSED on the lanes of every closure whose effective site it visits. -/
theorem State.composed_closed {s : State} {g l : Nat} {r : RoadClosure} (once : (s.composed g).closures.ids.Nodup)
    (tables : s.tables.Wf) (overlays : (s.composed g).OverlayWf) (inside : g < Config.maxGantries)
    (size : g < s.composer.delivery.length) (held : r ∈ (s.composed g).closures.roads) (here : r.effective = g)
    (near : r.effective ≤ r.site ∧ r.site ≤ r.effective + 2)
    (lane : l ∈ r.lanesAt (s.tables.gantry g)) : (s.composed g).demandedAspect g l = some .closed := by
  have signed := r.lanesAt_subset _ lane
  have aspect : (s.composed g).overlayAspect g l = some .closed :=
    State.overlayAspect_closed overlays once held (by omega) (by omega) ((s.composed_tables g).symm ▸ lane) inside
      (Tables.signedLanes_lt tables signed)
  have closures : (s.composed g).closures = (s.decided g).closures := s.composed_closures g
  have decided : (s.decided g).overlayAspect g l = some .closed := by
    rw [← aspect]
    exact (State.overlayAspect_congr g l (s.decided g) (s.composed g) (s.composed_tables g) closures
      fun h ne => State.composed_deliveryRec_ne ne).symm
  unfold State.demandedAspect
  rw [State.composed_deliveryRec_self size, State.composed_tables]
  show onLane (s.tables.gantry g) ((s.decided g).composeLanes g) l = _
  rw [State.composeLanes_eq]
  show onLane (s.tables.gantry g) ((s.tables.gantry g).signedLanes.map _) l = _
  rw [onLane_map _ signed, State.laneAspect_closed decided]

theorem State.composed_protectionWf {s : State} {g : Nat} (ground : s.GroundWf) (tables : s.tables.Wf)
    (overlays : s.OverlayWf) (pass : s.composer.pass = some g) (k : s.ProtectionWf) : (s.composed g).ProtectionWf := by
  obtain ⟨⟨-, -, -, delivery, -⟩, orders, places⟩ := ground
  obtain ⟨-, -, ⟨gantries, -⟩, -⟩ := id tables
  intro signing c hc
  rw [State.composed_signing] at signing
  obtain ⟨site, near⟩ := (State.composed_placesWf g places).road hc
  rw [State.composed_gantryCount] at site
  have held := hc
  rw [State.composed_closures] at hc
  change c ∈ (s.setRegister (s.settledRegister g)).closures.roads at hc
  rw [State.settledRegister_roads, List.mem_map] at hc
  obtain ⟨r, hr, e⟩ := hc
  intro marked
  refine ⟨fun visited => ?_, fun visited l hl => ?_⟩
  · rw [State.composed_fit]
    by_cases here : r.site = g
    · rw [if_pos here] at e
      obtain ⟨x, u, settled, -, fit⟩ := s.settleRoad_spec r
      rw [settled] at e
      subst e
      exact fit marked
    · rw [if_neg here] at e
      subst e
      have beyond : g < r.site := lt_of_le_of_ne (State.composed_visited.mp visited) (Ne.symm here)
      exact (k signing r hr marked).1 ((State.visited_beyond pass).mpr beyond)
  · rw [State.composed_tables] at hl
    rcases (State.composed_visited.mp visited).eq_or_lt with here | beyond
    · rw [← here] at hl ⊢
      have inside : g < Config.maxGantries := by
        have : s.gantryCount ≤ Config.maxGantries := gantries
        omega
      exact State.composed_closed (State.composed_ordersWf g orders).closureIds tables (State.composed_overlayWf g overlays)
        inside (delivery.symm ▸ inside) held here.symm near hl
    · rw [State.demandedAspect_congr (s.composed_tables g) (by rw [State.composed_deliveryRec_ne beyond.ne'])]
      have elsewhere : r.site ≠ g := fun here => by
        rw [if_pos here] at e
        obtain ⟨x, u, settled, ⟨le, -⟩, -⟩ := s.settleRoad_spec r
        rw [settled] at e
        subst e
        dsimp only at beyond
        omega
      rw [if_neg elsewhere] at e
      subst e
      exact (k signing r hr marked).2 ((State.visited_beyond pass).mpr beyond) l hl

/-- Settles O57: a settling leaves a closure fit or marked, the visit to its effective site demands CLOSED on its lanes,
and every change that could undo either requests a pass from its site. -/
theorem closureProtectionLaw : Obligations.ClosureProtectionLaw := by
  unfold Obligations.ClosureProtectionLaw
  intro s t _ shape tables orders places overlays _ protection h
  obtain ⟨-, -, -, keep⟩ := step_keeps (P := fun s => s.GroundWf ∧ s.tables.Wf ∧ s.OverlayWf ∧ s.ProtectionWf)
    (fun s t m k => by
      obtain ⟨⟨shape, orders, places⟩, tables, overlays, protection⟩ := k
      exact ⟨m.keeps_ground ⟨shape, orders, places⟩, m.keeps_tables tables, m.keeps_overlays shape orders places overlays,
        m.keeps_protection places protection⟩)
    (fun s g pass k => by
      obtain ⟨ground, tables, overlays, protection⟩ := k
      exact ⟨State.composed_groundWf g ground, (State.composed_tables g s).symm ▸ tables,
        State.composed_overlayWf g overlays, State.composed_protectionWf ground tables overlays pass protection⟩) h
    ⟨⟨shape, orders, places⟩, tables, overlays, protection⟩
  exact keep

end Sys2Proof.Machine
end

section
/-! SUPPORT. One request at a time: what of the state says that a request is held, in flight or being built, which
operations leave it alone, and what the settling of a centre exchange and the choice of the next request do to it (R31,
R54, R62, R64). -/

namespace Sys2Proof.Machine

/-! ## Requests out -/

/-- The kinds of the request held and of the request in flight. -/
def Link.signal (l : Link) : Option RequestKind × Option RequestKind :=
  (l.held.map Request.kind, match l.phase with
    | .sending x | .awaiting x => some x.request.kind
    | .idle | .guarding _ _ => none)

theorem Link.inFlight_eq (l : Link) : l.phase.inFlight = l.signal.2.isSome := by
  unfold Link.signal LinkPhase.inFlight
  cases l.phase <;> rfl

theorem Link.held_eq (l : Link) : l.held.isSome = l.signal.1.isSome := by
  unfold Link.signal
  cases l.held <;> rfl

theorem Link.outKind_eq (l : Link) : l.outKind = l.signal.1.or l.signal.2 := by
  unfold Link.signal Link.outKind
  cases l.held <;> cases l.phase <;> rfl

theorem State.requestOut_eq (s : State) : s.requestOut =
    (s.link.signal.1.isSome || s.sequencer.building.isSome || s.link.signal.2.isSome) := by
  rw [← Link.held_eq, ← Link.inFlight_eq]
  unfold State.requestOut LinkPhase.inFlight
  cases s.link.phase <;> rfl

/-- Nothing of what the law of one request reads has changed. -/
structure Calm (s t : State) : Prop where
  reset : t.resetAsserted = s.resetAsserted
  flag : t.modeControl.tableChecked = s.modeControl.tableChecked
  configured : t.configured = s.configured
  signal : t.link.signal = s.link.signal
  building : t.sequencer.building = s.sequencer.building
  idle : t.sequencer.idleWait.isSome = s.sequencer.idleWait.isSome
  owed : t.sequencer.choiceOwed = s.sequencer.choiceOwed

theorem Calm.refl (s : State) : Calm s s := ⟨rfl, rfl, rfl, rfl, rfl, rfl, rfl⟩

theorem Calm.trans {s t u : State} (h : Calm s t) (k : Calm t u) : Calm s u :=
  ⟨k.reset.trans h.reset, k.flag.trans h.flag, k.configured.trans h.configured, k.signal.trans h.signal,
    k.building.trans h.building, k.idle.trans h.idle, k.owed.trans h.owed⟩

theorem Calm.ite {s t u : State} {c : Prop} [Decidable c] (h : Calm s t) (k : Calm s u) :
    Calm s (if c then t else u) := by split <;> assumption

theorem Calm.requestOut {s t : State} (h : Calm s t) : t.requestOut = s.requestOut := by
  rw [State.requestOut_eq, State.requestOut_eq, h.signal, h.building]

/-- A change of the link that keeps its requests, and of parts that the law does not read. -/
theorem Touches.calm_link {ps : List Part} {s t : State} (h : Touches ps s t) (signal : t.link.signal = s.link.signal)
    (free : Part.resetAsserted ∉ ps ∧ Part.modeControl ∉ ps ∧ Part.sequencer ∉ ps) : Calm s t := by
  obtain ⟨r, m, q⟩ := free
  have mode : t.modeControl = s.modeControl := h .modeControl m
  have sequencer : t.sequencer = s.sequencer := h .sequencer q
  refine ⟨h .resetAsserted r, by rw [mode], ?_, signal, by rw [sequencer], by rw [sequencer], by rw [sequencer]⟩
  rw [State.configured, State.mode, mode]
  rfl

theorem Touches.calm {ps : List Part} {s t : State} (h : Touches ps s t)
    (free : Part.link ∉ ps ∧ Part.resetAsserted ∉ ps ∧ Part.modeControl ∉ ps ∧ Part.sequencer ∉ ps) : Calm s t := by
  obtain ⟨l, free⟩ := free
  have link : t.link = s.link := h .link l
  exact h.calm_link (by rw [link]) free

theorem Link.signal_congr {l m : Link} (held : m.held = l.held) (phase : m.phase = l.phase) : m.signal = l.signal := by
  unfold Link.signal
  rw [held, phase]

/-! ## The Link Controller's accounts -/

theorem Link.settlePath_requests (x : Exchange) (p : Path) (l : Link) :
    (l.settlePath x p).held = l.held ∧ (l.settlePath x p).phase = l.phase := by
  unfold Link.settlePath
  split
  · split <;> exact ⟨rfl, rfl⟩
  · exact ⟨rfl, rfl⟩

theorem State.settlePaths_calm (x : Exchange) (s : State) : Calm s (s.settlePaths x) := by
  refine (s.settlePaths_touches x).calm_link ?_ (by decide)
  obtain ⟨held1, phase1⟩ := s.link.settlePath_requests x .one
  obtain ⟨held2, phase2⟩ := (s.link.settlePath x .one).settlePath_requests x .two
  have same : ((s.link.settlePath x .one).settlePath x .two).signal = s.link.signal :=
    Link.signal_congr (held2.trans held1) (phase2.trans phase1)
  unfold State.settlePaths
  dsimp only
  split
  · split
    · rw [State.reportChange_link, State.reportAll_link, State.reportChange_link]
      exact same
    · rw [State.reportAll_link, State.reportChange_link]
      exact same
  · rw [State.reportAll_link]
    exact same

theorem State.settleCounters_calm (x : Exchange) (s : State) : Calm s (s.settleCounters x) := by
  refine (s.settleCounters_touches x).calm_link ?_ (by decide)
  unfold State.settleCounters
  rw [State.reportChange_link]
  rfl

theorem State.noteException_calm (c : Capture) (s : State) : Calm s (s.noteException c) :=
  (s.noteException_touches c).calm_link rfl (by decide)

theorem State.noteOutcome_calm (x : Exchange) (s : State) : Calm s (s.noteOutcome x) :=
  Calm.ite (s.noteException_calm _) (.refl s)

theorem State.noteStray_calm (k : ExceptionKind) (x : Option ExchangeId) (p : Path) (r : CopyResult) (s : State) :
    Calm s (s.noteStray k x p r) :=
  (s.noteStray_touches k x p r).calm_link rfl (by decide)

theorem State.pathForce_calm (n : Nat) (s : State) : Calm s (s.pathForce n).1 := by
  have force : ∀ p, (s.forcePath p).link.signal = s.link.signal := by
    intro p
    unfold State.forcePath
    rw [State.reportChange_link]
    rfl
  refine (s.pathForce_touches n).calm_link ?_ (by decide)
  unfold State.pathForce
  split
  · exact force .one
  · exact force .two
  · rfl

theorem State.pathModeOrder_calm (m : PathMode) (s : State) : Calm s (s.pathModeOrder m).1 := by
  refine (s.pathModeOrder_touches m).calm_link ?_ (by decide)
  unfold State.pathModeOrder
  dsimp only
  split
  · rfl
  · cases m with
    | dual => rfl
    | single =>
      dsimp only
      unfold State.enterSingle
      rw [State.reportChange_link, State.reportChange_link]
      rfl

theorem State.counterReset_calm (s : State) : Calm s s.counterReset.1 := by
  refine s.counterReset_touches.calm_link ?_ (by decide)
  unfold State.counterReset
  rw [State.reportChange_link]
  rfl

theorem State.settleFreeze_calm (s : State) : Calm s s.settleFreeze := s.settleFreeze_touches.calm_link rfl (by decide)

/-- A request overtaken by a mode change is the same request (R21, R23). -/
theorem State.overtake_calm (fate : ReplyFate) (s : State) : Calm s (s.overtake fate) := by
  refine (s.overtake_touches fate).calm_link ?_ (by decide)
  have kind : ∀ r : Request, (r.overtaken fate).kind = r.kind := fun r => by
    unfold Request.overtaken
    split <;> rfl
  unfold State.overtake Link.signal
  dsimp only
  rw [Option.map_map]
  have held : Option.map (Request.kind ∘ Request.overtaken fate) s.link.held = s.link.held.map Request.kind := by
    cases s.link.held with
    | none => rfl
    | some r => exact congrArg some (kind r)
  rw [held]
  cases s.link.phase <;> simp [kind]

/-! ## Modes and interval closes -/

theorem State.requestPass_calm (h : Nat) (s : State) : Calm s (s.requestPass h) :=
  (s.requestPass_touches h).calm (by decide)

theorem State.setMode_calm {m : Mode} {s : State} (now : m ≠ .unconfigured) (was : s.configured = true) :
    Calm s (s.setMode m) :=
  ⟨rfl, rfl, (State.configured_of_mode (s := s.setMode m) now).trans was.symm, rfl, rfl, rfl, rfl⟩

theorem State.countClose_calm (s : State) : Calm s s.countClose := by
  unfold State.countClose
  split
  next startup =>
    have counted : Calm s { s with modeControl := { s.modeControl with startupCount := s.modeControl.startupCount + 1 } } :=
      ⟨rfl, rfl, rfl, rfl, rfl, rfl, rfl⟩
    have was : s.configured = true := State.configured_of_mode (by simp [startup])
    exact Calm.ite ((counted.trans (State.setMode_calm (by decide) (counted.configured.trans was))).trans
      (State.requestPass_calm _ _)) counted
  · exact .refl s

theorem State.payCount_calm (s : State) : Calm s s.payCount :=
  Calm.ite (((touches_countOwed s none).calm (by decide)).trans (State.countClose_calm _)) (.refl s)

theorem State.countEvaluated_calm (s : State) : Calm s s.countEvaluated := Calm.ite s.payCount_calm (.refl s)

theorem State.countVisited_calm (s : State) : Calm s s.countVisited := by
  unfold State.countVisited
  split
  · exact .refl s
  · exact Calm.ite (.refl s) (Calm.ite s.payCount_calm ((touches_countOwed s _).calm (by decide)))

theorem State.noteClose_calm (o : CountOrder) (s : State) : Calm s (s.noteClose o) := by
  unfold State.noteClose
  split
  · cases o with
    | countFirst => exact s.countClose_calm
    | evaluationFirst n => exact (touches_countOwed s _).calm (by decide)
  · exact .refl s

theorem State.closeInterval_calm (o : CountOrder) (s : State) : Calm s (s.closeInterval o) := by
  have stopped : Calm s { s with sequencer := { s.sequencer with evaluationTimer := none } } :=
    ⟨rfl, rfl, rfl, rfl, rfl, rfl, rfl⟩
  exact (((stopped.trans (State.payCount_calm _)).trans ((State.closeReduction_touches _).calm (by decide))).trans
    (State.noteClose_calm o _)).trans ((State.startRound_touches _).calm (by decide))

theorem State.expireInterval_calm (o : CountOrder) (s : State) : Calm s (s.expireInterval o) := by
  unfold State.expireInterval
  split
  · have reloaded : Calm s { s with sequencer := { s.sequencer with
        intervalTimer := some (s.par.intervalLength * 1000) } } := ⟨rfl, rfl, rfl, rfl, rfl, rfl, rfl⟩
    exact (Calm.ite (reloaded.trans (State.closeInterval_calm o _)) reloaded).trans ⟨rfl, rfl, rfl, rfl, rfl, rfl, rfl⟩
  · exact .refl s

theorem State.takeEvaluation_calm (s : State) : Calm s s.takeEvaluation := by
  unfold State.takeEvaluation
  split
  · exact .refl s
  · have asked : Calm s { s with evaluationsAsked := s.evaluationsAsked - 1 } :=
      (touches_evaluationsAsked s _).calm (by decide)
    exact (Calm.ite (asked.trans ((State.evaluateBands_touches _).calm (by decide))) asked).trans
      (State.countEvaluated_calm _)

theorem State.openAtMark_calm (s : State) : Calm s s.openAtMark :=
  (s.openInterval_touches.calm (by decide)).trans ⟨rfl, rfl, rfl, rfl, rfl, rfl, rfl⟩

theorem State.tick_calm (s : State) : Calm s s.tick := by
  unfold State.tick
  split
  · exact .refl s
  · refine ⟨rfl, rfl, rfl, ?_, rfl, ?_, rfl⟩
    · unfold Link.signal Link.tickPhase
      cases s.link.phase <;> rfl
    · exact Option.isSome_map

/-! ## The law while a request may still be built -/

/-- At most one request is held, in flight or being built, and none while a choice waits. -/
structure State.Lone (s : State) : Prop where
  held : s.link.signal.1.isSome = true → s.link.signal.2 = none
  building : s.sequencer.building.isSome = true → s.link.signal = (none, none)
  owed : s.sequencer.choiceOwed = true → s.requestOut = false

/-- What the law of one request says of the modes: the idle wait runs in UNCONFIGURED with nothing out, and a choice
waits outside it. -/
structure State.Timed (s : State) : Prop where
  released : s.resetAsserted = false
  flag : s.FlagWf
  idle : s.sequencer.idleWait.isSome = true → s.configured = false ∧ s.requestOut = false
  owed : s.sequencer.choiceOwed = true → s.configured = true

theorem State.oneRequestWf_iff {s : State} (released : s.resetAsserted = false) :
    s.FlagWf ∧ s.OneRequestWf ↔ s.Lone ∧ s.Timed ∧ s.sequencer.building = none := by
  unfold State.OneRequestWf
  rw [Link.held_eq, Link.inFlight_eq, Option.isSome_eq_false_iff, Option.isNone_iff_eq_none]
  constructor
  · rintro ⟨flag, held, building, idle, owed, -⟩
    exact ⟨⟨held, fun h => absurd h (by simp [building]), fun h => (owed h).2⟩, ⟨released, flag, idle, fun h => (owed h).1⟩,
      building⟩
  · rintro ⟨lone, timed, building⟩
    exact ⟨timed.flag, lone.held, building, timed.idle, fun h => ⟨timed.owed h, lone.owed h⟩,
      fun h => absurd (released.symm.trans h) (by decide)⟩

theorem Calm.lone {s t : State} (h : Calm s t) (k : s.Lone) : t.Lone := by
  refine ⟨?_, ?_, ?_⟩
  · rw [h.signal]
    exact k.held
  · rw [h.signal, h.building]
    exact k.building
  · rw [h.owed, h.requestOut]
    exact k.owed

theorem Calm.timed {s t : State} (h : Calm s t) (k : s.Timed) : t.Timed := by
  refine ⟨h.reset.trans k.released, ?_, ?_, ?_⟩
  · rw [State.FlagWf, h.flag, h.configured]
    exact k.flag
  · rw [h.idle, h.configured, h.requestOut]
    exact k.idle
  · rw [h.owed, h.configured]
    exact k.owed

theorem Calm.oneRequestWf {s t : State} (h : Calm s t) (k : s.OneRequestWf) : t.OneRequestWf := by
  unfold State.OneRequestWf at k ⊢
  rw [Link.held_eq, Link.inFlight_eq] at k ⊢
  rw [h.signal, h.building, h.idle, h.configured, h.requestOut, h.owed, h.reset]
  exact k

/-- What an operation that may choose a request does: the law stands, and a request that is out stays as it is. -/
structure Settles (s t : State) : Prop where
  reset : t.resetAsserted = s.resetAsserted
  lone : s.Lone → t.Lone
  out : s.Lone → s.requestOut = true → t.link.signal = s.link.signal ∧ t.sequencer.building = s.sequencer.building
  timed : s.Lone → s.Timed → t.Timed

theorem Calm.settles {s t : State} (h : Calm s t) : Settles s t :=
  ⟨h.reset, h.lone, fun _ _ => ⟨h.signal, h.building⟩, fun _ => h.timed⟩

theorem Settles.refl (s : State) : Settles s s := (Calm.refl s).settles

theorem Settles.trans {s t u : State} (h : Settles s t) (k : Settles t u) : Settles s u := by
  refine ⟨k.reset.trans h.reset, fun l => k.lone (h.lone l), fun l out => ?_, fun l m => k.timed (h.lone l) (h.timed l m)⟩
  obtain ⟨signal, building⟩ := h.out l out
  have still : t.requestOut = true := by rw [State.requestOut_eq, signal, building, ← State.requestOut_eq, out]
  obtain ⟨signal', building'⟩ := k.out (h.lone l) still
  exact ⟨signal'.trans signal, building'.trans building⟩

theorem Settles.foldl {α : Type} {f : State → α → State} (h : ∀ s x, Settles s (f s x)) :
    ∀ (xs : List α) (s : State), Settles s (xs.foldl f s)
  | [], s => .refl s
  | x :: xs, s => (h s x).trans (Settles.foldl h xs (f s x))

/-! ## The choice of a request (R54, R62) -/

theorem State.requestOut_eq_false {s : State} : s.requestOut = false ↔
    s.link.signal = (none, none) ∧ s.sequencer.building = none := by
  rw [State.requestOut_eq]
  rcases s.link.signal with ⟨_ | a, _ | b⟩ <;> cases s.sequencer.building <;> simp

/-- What a choice leaves: nothing else changed, and at most one request held or being built. -/
theorem State.takeSlot_one {s t : State} {i : Nat} {slot : Slot} (h : s.takeSlot i slot = some t)
    (building : s.sequencer.building = none) (held : s.link.held = none) :
    t.sequencer.building = none ∨ t.link.held = none := by
  cases slot with
  | station n =>
    simp only [State.takeSlot] at h
    split at h
    · cases h
      exact .inl building
    · cases h
  | centre =>
    cases h
    exact .inr held
  | command =>
    cases h
    exact .inl (congrArg Sequencer.building (s.takeCommand_touches i .sequencer (by decide)) |>.trans building)
  | spare =>
    simp only [State.takeSlot] at h
    split at h
    · obtain ⟨n, -, rfl⟩ := Option.map_eq_some_iff.mp h
      exact .inl building
    · cases h

theorem State.walkFrom_one {fuel : Nat} {s : State} (building : s.sequencer.building = none)
    (held : s.link.held = none) :
    (State.walkFrom fuel s).sequencer.building = none ∨ (State.walkFrom fuel s).link.held = none := by
  induction fuel generalizing s with
  | zero => exact .inl building
  | succ fuel ih =>
    unfold State.walkFrom
    dsimp only
    split
    next t yields =>
      obtain ⟨slot, -, taken⟩ := Option.bind_eq_some_iff.mp yields
      exact State.takeSlot_one taken building held
    · exact ih building held

/-- A choice made while nothing is out leaves at most one request out. -/
theorem Chose.lone {s t : State} (h : Chose s t) (one : t.sequencer.building = none ∨ t.link.held = none)
    (vacant : s.link.signal = (none, none)) (owed : s.sequencer.choiceOwed = false) : t.Lone := by
  obtain ⟨link, sequencer, -⟩ := h
  have flight : t.link.signal.2 = none := by
    rw [link]
    exact congrArg Prod.snd vacant
  have same : t.sequencer.choiceOwed = false := by rw [sequencer]; exact owed
  refine ⟨fun _ => flight, fun h => ?_, fun h => absurd (same.symm.trans h) (by decide)⟩
  rcases one with one | one
  · rw [one] at h
    cases h
  · refine Prod.ext ?_ flight
    show t.link.held.map _ = none
    rw [one]
    rfl

theorem Chose.configured {s t : State} (h : Chose s t) : t.sequencer.idleWait = s.sequencer.idleWait ∧
    t.sequencer.choiceOwed = s.sequencer.choiceOwed := by
  obtain ⟨-, sequencer, -⟩ := h
  rw [sequencer]
  exact ⟨rfl, rfl⟩

/-- What of the mode a choice leaves alone. -/
theorem Touches.mode {ps : List Part} {s t : State} (h : Touches ps s t) (free : Part.modeControl ∉ ps) :
    t.configured = s.configured ∧ t.modeControl.tableChecked = s.modeControl.tableChecked := by
  have mode : t.modeControl = s.modeControl := h .modeControl free
  exact ⟨by rw [State.configured, State.mode, mode]; rfl, by rw [mode]⟩

theorem State.held_of_signal {s : State} (h : s.link.signal = (none, none)) : s.link.held = none :=
  Option.map_eq_none_iff.mp (congrArg Prod.fst h)

/-- Nothing is out and nothing waits: a choice is due, outside UNCONFIGURED. -/
structure State.Due (s : State) : Prop where
  released : s.resetAsserted = false
  signal : s.link.signal = (none, none)
  building : s.sequencer.building = none
  owed : s.sequencer.choiceOwed = false

theorem State.chooseRequest_one {s : State} (due : s.Due) :
    s.chooseRequest.sequencer.building = none ∨ s.chooseRequest.link.held = none := by
  unfold State.chooseRequest
  split
  · exact .inl due.building
  · exact State.walkFrom_one due.building (State.held_of_signal due.signal)

theorem State.chooseRequest_lone {s : State} (due : s.Due) : s.chooseRequest.Lone :=
  s.chooseRequest_chose.lone (State.chooseRequest_one due) due.signal due.owed

theorem State.chooseRequest_timed {s : State} (due : s.Due) (flag : s.FlagWf) (idle : s.sequencer.idleWait = none) :
    s.chooseRequest.Timed := by
  obtain ⟨configured, checked⟩ := s.chooseRequest_touches.mode (by decide)
  obtain ⟨idleWait, owed⟩ := s.chooseRequest_chose.configured
  refine ⟨(s.chooseRequest_touches .resetAsserted (by decide)).trans due.released, ?_, ?_, ?_⟩
  · rw [State.FlagWf, checked, configured]
    exact flag
  · rw [idleWait, idle]
    nofun
  · rw [owed, due.owed]
    nofun

/-- An entry to STANDBY chooses a request where none is out and no choice waits, and stops the idle wait (R53, R62). -/
theorem State.enterStandby_spec {s : State} (released : s.resetAsserted = false) (lone : s.Lone) : s.enterStandby.Lone ∧
    (s.requestOut = true → s.enterStandby.link.signal = s.link.signal ∧
      s.enterStandby.sequencer.building = s.sequencer.building) ∧
    (s.FlagWf → s.configured = true → s.enterStandby.Timed) := by
  obtain ⟨mode, checked⟩ := s.enterStandby_touches.mode (by decide)
  have reset : s.enterStandby.resetAsserted = false :=
    (s.enterStandby_touches .resetAsserted (by decide)).trans released
  have timed : s.enterStandby.sequencer.idleWait = none → s.FlagWf → s.configured = true → s.enterStandby.Timed := by
    intro idle flag configured
    refine ⟨reset, ?_, ?_, fun _ => mode.trans configured⟩
    · rw [State.FlagWf, checked, mode]
      exact flag
    · rw [idle]
      nofun
  unfold State.enterStandby at timed ⊢
  dsimp only at timed ⊢
  split at timed
  next waits =>
    rw [if_pos waits]
    exact ⟨⟨lone.held, lone.building, lone.owed⟩, fun _ => ⟨rfl, rfl⟩, timed rfl⟩
  next vacant =>
    rw [if_neg vacant]
    simp only [Bool.or_eq_true, not_or, Bool.not_eq_true] at vacant
    obtain ⟨owed, out⟩ := vacant
    have none_out : s.requestOut = false := out
    obtain ⟨signal, building⟩ := State.requestOut_eq_false.mp none_out
    refine ⟨?_, fun h => absurd (none_out.symm.trans h) (by decide), timed ?_⟩
    · exact (State.walkFrom_chose _ _).lone (State.walkFrom_one building (State.held_of_signal signal)) signal owed
    · exact (State.walkFrom_chose _ _).configured.1

/-! ## Orders (R166) -/

theorem State.stopSigning_settles {s : State} (released : s.resetAsserted = false) (was : s.configured = true) :
    Settles s s.stopSigning := by
  have before : Calm s ((((s.setMode .standby).stopDemands).clearDemands).overtake .judgeOnly) :=
    (((State.setMode_calm (by decide) was).trans ((State.stopDemands_touches _).calm (by decide))).trans
      ((State.clearDemands_touches _).calm (by decide))).trans (State.overtake_calm _ _)
  have entry := fun l => State.enterStandby_spec (before.reset.trans released) (before.lone l)
  refine ⟨s.stopSigning_touches .resetAsserted (by decide), fun l => (entry l).1, fun l out => ?_, fun l k => ?_⟩
  · obtain ⟨-, kept, -⟩ := entry l
    obtain ⟨signal, building⟩ := kept (before.requestOut.trans out)
    exact ⟨signal.trans before.signal, building.trans before.building⟩
  · obtain ⟨-, -, timed⟩ := entry l
    exact timed (before.timed k).flag (before.configured.trans was)

theorem State.modeRun_calm (s : State) : Calm s s.modeRun.1 := by
  unfold State.modeRun
  split
  · exact .refl s
  next standby =>
    have was : s.configured = true := State.configured_of_mode (by simp [standby])
    have moved : Calm s { s with modeControl := { s.modeControl with mode := .startup, startupCount := 0 } } :=
      ⟨rfl, rfl, was.symm, rfl, rfl, rfl, rfl⟩
    exact moved.trans (State.requestPass_calm _ _)
  · exact .refl s
  · exact .refl s

theorem State.modeStandby_settles {s : State} (released : s.resetAsserted = false) : Settles s s.modeStandby.1 := by
  unfold State.modeStandby
  split
  · exact .refl s
  · exact .refl s
  next mode =>
    split
    · exact .refl s
    · exact State.stopSigning_settles released (State.configured_of_mode (by simp [mode]))
  next mode =>
    split
    · exact .refl s
    · exact State.stopSigning_settles released (State.configured_of_mode (by simp [mode]))

theorem Settles.of_unconfigured {s t u : State} (reset : t.resetAsserted = s.resetAsserted)
    (signal : t.link.signal = s.link.signal) (sequencer : t.sequencer = s.sequencer) (stop : u = t.stopCycle)
    (flag : t.modeControl.tableChecked = false) (mode : t.mode = .unconfigured) : Settles s u := by
  have out : t.requestOut = s.requestOut := by rw [State.requestOut_eq, State.requestOut_eq, signal, sequencer]
  have stopped : t.stopCycle.requestOut = t.requestOut := rfl
  have now := State.not_configured_of_mode mode
  rw [stop]
  refine ⟨reset, fun l => ⟨?_, ?_, nofun⟩, fun _ _ => ⟨signal, by rw [← sequencer]; rfl⟩,
    fun _ k => ⟨reset.trans k.released, flag.trans now.symm, fun h => ⟨now, ?_⟩, nofun⟩⟩
  · show t.link.signal.1.isSome = true → t.link.signal.2 = none
    rw [signal]
    exact l.held
  · show t.sequencer.building.isSome = true → t.link.signal = _
    rw [signal, sequencer]
    exact l.building
  · rw [stopped]
    by_contra busy
    have : t.stopCycle.sequencer.idleWait = none := if_pos (Bool.not_eq_false _ ▸ busy)
    rw [this] at h
    cases h

theorem State.tableLoad_settles (sect length first : Nat) (records : List (List Byte)) (s : State) :
    Settles s (s.tableLoad sect length first records).1 := by
  unfold State.tableLoad
  split
  · exact .refl s
  next quiet =>
    split
    · exact .refl s
    next tables accepted =>
      dsimp only
      split
      next standby =>
        refine Settles.of_unconfigured
          (t := ((((((({ s with
            tables := tables,
            modeControl := { s.modeControl with tableChecked := false } } : State).setMode .unconfigured).emptyRecords
              ).resetSpeed).resetClosures).resetComposer.lowerTableBound).overtake .discard).endRound) ?_ ?_ ?_ rfl ?_ ?_
        · exact (State.lowerTableBound_touches _ .resetAsserted (by decide))
        · refine (State.overtake_calm _ _).signal.trans ?_
          rw [State.lowerTableBound_touches _ .link (by decide)]
          rfl
        · exact State.lowerTableBound_touches _ .sequencer (by decide)
        · show (State.lowerTableBound _).modeControl.tableChecked = false
          rw [State.lowerTableBound_touches _ .modeControl (by decide)]
          rfl
        · show (State.lowerTableBound _).modeControl.mode = .unconfigured
          rw [State.lowerTableBound_touches _ .modeControl (by decide)]
          rfl
      next other =>
        have unconfigured : s.configured = false := by
          cases mode : s.mode with
          | unconfigured => exact State.not_configured_of_mode mode
          | standby => exact absurd mode other
          | startup => exact absurd (State.signing_of_mode (.inl mode)) quiet
          | active => exact absurd (State.signing_of_mode (.inr mode)) quiet
        exact ⟨rfl, fun l => ⟨l.held, l.building, l.owed⟩, fun _ _ => ⟨rfl, rfl⟩,
          fun _ k => ⟨k.released, unconfigured.symm, k.idle, k.owed⟩⟩

theorem State.tableCheck_settles {s : State} (released : s.resetAsserted = false) : Settles s s.tableCheck.1 := by
  unfold State.tableCheck
  split
  · exact .refl s
  next was =>
    split
    · exact .refl s
    · have entry := fun l : s.Lone => State.enterStandby_spec (s := (({ s with modeControl := { s.modeControl with
        mode := .standby, tableChecked := true } } : State).emptyRecords).resetSpeed) released ⟨l.held, l.building, l.owed⟩
      refine ⟨State.enterStandby_touches _ .resetAsserted (by decide), fun l => (entry l).1, fun l => ?_, fun l k => ?_⟩
      · obtain ⟨-, kept, -⟩ := entry l
        exact kept
      · obtain ⟨-, -, timed⟩ := entry l
        exact timed rfl rfl

/-- The mode after a RESTART (R28). -/
def State.restartMode (s : State) : State :=
  { s with modeControl := { s.modeControl with
      mode := if s.modeControl.tableChecked then .standby else .unconfigured, startupCount := 0 } }

/-- A RESTART but for the entry to STANDBY (R28). -/
def State.restartCleared (s : State) : State :=
  ((((((((s.restartMode).emptyRecords).resetSpeed).resetClosures).clearDemands).overtake .judgeOnly).clearReports
    ).clearAlerts).reportAgain

theorem State.restart_eq (s : State) : s.restart.1 =
    if s.restartCleared.configured then s.restartCleared.enterStandby else s.restartCleared := rfl

theorem State.restartCleared_calm (s : State) : Calm s.restartMode s.restartCleared := by
  have emptied : Calm s.restartMode (((s.restartMode).emptyRecords.resetSpeed).resetClosures).clearDemands :=
    ⟨rfl, rfl, rfl, rfl, rfl, rfl, rfl⟩
  exact (((emptied.trans (State.overtake_calm _ _)).trans ((State.clearReports_touches _).calm (by decide))).trans
    ((State.clearAlerts_touches _).calm_link rfl (by decide))).trans ((State.reportAgain_touches _).calm (by decide))

theorem State.restartMode_configured (s : State) : s.restartMode.configured = s.modeControl.tableChecked := by
  unfold State.restartMode State.configured State.mode
  cases s.modeControl.tableChecked <;> rfl

theorem State.Timed.restartMode {s : State} (k : s.Timed) : s.restartMode.Timed := by
  have same : s.restartMode.configured = s.configured := s.restartMode_configured.trans k.flag
  refine ⟨k.released, s.restartMode_configured.symm, fun h => ?_, fun h => ?_⟩
  · rw [same]
    exact k.idle h
  · rw [same]
    exact k.owed h

theorem State.restart_settles {s : State} (released : s.resetAsserted = false) : Settles s s.restart.1 := by
  have before := s.restartCleared_calm
  have first : s.Lone → s.restartCleared.Lone := fun l => before.lone ⟨l.held, l.building, l.owed⟩
  have entry := fun l => State.enterStandby_spec (before.reset.trans released) (first l)
  refine ⟨s.restart_touches .resetAsserted (by decide), fun l => ?_, fun l out => ?_, fun l k => ?_⟩
  · rw [State.restart_eq]
    split
    · exact (entry l).1
    · exact first l
  · rw [State.restart_eq]
    split
    · obtain ⟨-, kept, -⟩ := entry l
      obtain ⟨signal, building⟩ := kept (before.requestOut.trans out)
      exact ⟨signal.trans before.signal, building.trans before.building⟩
    · exact ⟨before.signal, before.building⟩
  · have timed := before.timed k.restartMode
    rw [State.restart_eq]
    split
    next configured =>
      obtain ⟨-, -, enters⟩ := entry l
      exact enters timed.flag configured
    · exact timed

theorem State.carryOut_settles {s : State} (released : s.resetAsserted = false) (o : Order) :
    Settles s (s.carryOut o).1 := by
  cases o with
  | modeRun => exact s.modeRun_calm.settles
  | modeStandby => exact State.modeStandby_settles released
  | tableLoad a b c r => exact s.tableLoad_settles a b c r
  | tableCheck => exact State.tableCheck_settles released
  | restart => exact State.restart_settles released
  | laneClose | carriagewayClose => exact ((s.closeRoad_touches _ _ _ _).calm (by decide)).settles
  | shoulderOpen => exact ((s.shoulderOpen_touches _ _ _ _).calm (by decide)).settles
  | orderClear => exact ((s.orderClear_touches _).calm (by decide)).settles
  | limitSet => exact ((s.limitSet_touches _ _ _ _ _).calm (by decide)).settles
  | laneHealthClear => exact ((s.laneHealthClear_touches _ _).calm (by decide)).settles
  | inject => exact ((s.inject_touches _ _ _ _).calm (by decide)).settles
  | pathForce => exact (s.pathForce_calm _).settles
  | pathMode => exact (s.pathModeOrder_calm _).settles
  | counterReset => exact s.counterReset_calm.settles
  | query => exact .refl s
  | alertAck => exact (((touches_alerts s _).calm (by decide)).trans (State.settleFreeze_calm _)).settles
  | alertMask => exact (((touches_alerts s _).calm (by decide)).trans (State.settleFreeze_calm _)).settles

theorem State.takeOrder_settles {s : State} (released : s.resetAsserted = false) (m : OrderMessage) :
    Settles s (s.takeOrder m) := by
  have answered : Settles s (s.answerOrder m).2.1 := by
    unfold State.answerOrder
    split
    · exact State.carryOut_settles released _
    · exact .refl s
    · exact .refl s
  exact answered.trans ((State.offerReport_touches _ _).calm (by decide)).settles

theorem State.takeOrders_settles {s : State} (released : s.resetAsserted = false) (credit : Nat) (payload : List Byte) :
    Settles s (s.takeOrders credit payload) := by
  have each : ∀ (ms : List OrderMessage) (t : State), t.resetAsserted = false →
      Settles t (ms.foldl (fun (t : State) m => t.takeOrder m) t) := by
    intro ms
    induction ms with
    | nil => exact fun t _ => .refl t
    | cons m ms ih =>
      intro t h
      have one := State.takeOrder_settles h m
      exact one.trans (ih _ (one.reset.trans h))
  unfold State.takeOrders
  dsimp only
  split
  · exact (each _ s released).trans ((touches_alerts _ _).calm (by decide)).settles
  · exact each _ s released

/-! ## The end of a centre exchange, and the request that may follow (R54, R57, R64, R159) -/

theorem State.settleCentre_settles {s : State} (released : s.resetAsserted = false) : Settles s s.settleCentre := by
  unfold State.settleCentre
  split
  · exact .refl s
  · exact (s.settleFailed_touches.calm (by decide)).settles
  · unfold State.settleReceived
    have before : Calm s (((({ s.relink with
        alerts := s.relink.alerts.deliver (s.centre.carried.getD .nothing).notices } : State).departCarried
          (s.centre.carried.getD .nothing)).moveCursor (s.centre.carried.getD .nothing))) :=
      (((s.relink_touches.calm (by decide)).trans ((touches_alerts _ _).calm (by decide))).trans
        ((State.departCarried_touches _ _).calm (by decide))).trans ((State.moveCursor_touches _ _).calm (by decide))
    exact (before.settles.trans (State.takeOrders_settles (before.reset.trans released) _ _)).trans
      ((State.dropCarried_touches _).calm (by decide)).settles

theorem State.buildCentre_signal (i : Option Nat) (s : State) :
    (s.buildCentre i).link.signal = (some .cxe, s.link.signal.2) ∧ (s.buildCentre i).sequencer.building = none := ⟨rfl, rfl⟩

/-- A request chosen for a CENTRE slot is built and held; with none chosen nothing changes. -/
theorem State.completeBuild_spec {s : State} (released : s.resetAsserted = false) (lone : s.Lone) :
    s.completeBuild.resetAsserted = false ∧ s.completeBuild.Lone ∧ s.completeBuild.sequencer.building = none ∧
      (s.Timed → s.completeBuild.Timed) ∧
      (s.sequencer.building.isSome = true → s.completeBuild.sequencer.choiceOwed = false) := by
  unfold State.completeBuild
  split
  next none_building => exact ⟨released, lone, none_building, id, fun h => absurd h (by simp [none_building])⟩
  next i building =>
    have settles := State.settleCentre_settles released
    have out : s.requestOut = true := by rw [State.requestOut_eq, building]; simp
    obtain ⟨signal, still⟩ := settles.out lone out
    have after := settles.lone lone
    have vacant : s.settleCentre.link.signal = (none, none) := after.building (by rw [still, building]; rfl)
    have busy : s.settleCentre.requestOut = true := by rw [State.requestOut_eq, still, building]; simp
    have unowed : s.settleCentre.sequencer.choiceOwed = false := by
      rw [Bool.eq_false_iff]
      exact fun h => absurd (after.owed h) (by simp [busy])
    have flight : (s.settleCentre.buildCentre i).link.signal.2 = none := congrArg Prod.snd vacant
    have owed : (s.settleCentre.buildCentre i).sequencer.choiceOwed = false := unowed
    refine ⟨settles.reset.trans released, ⟨fun _ => flight, nofun, fun h => absurd (owed.symm.trans h) (by decide)⟩, rfl,
      fun k => ?_, fun _ => owed⟩
    have timed := settles.timed lone k
    refine ⟨timed.released, timed.flag, fun h => ?_, fun h => absurd (owed.symm.trans h) (by decide)⟩
    exact absurd (timed.idle h).2 (by simp [busy])

/-- The next request is chosen while nothing is out (R54). -/
theorem State.chooseNext_spec {s : State} (due : s.Due) : s.chooseNext.Lone ∧ s.chooseNext.sequencer.building = none ∧
    (s.FlagWf → s.sequencer.idleWait = none → s.chooseNext.Timed) := by
  have released : s.chooseRequest.resetAsserted = false :=
    (s.chooseRequest_touches .resetAsserted (by decide)).trans due.released
  obtain ⟨-, lone, building, timed, -⟩ := State.completeBuild_spec released (State.chooseRequest_lone due)
  exact ⟨lone, building, fun flag idle => timed (State.chooseRequest_timed due flag idle)⟩

/-- After an exchange end the idle wait runs, a choice waits, or the next request is chosen (R54, R57, R64). -/
theorem State.exchangeEnded_spec {s : State} (due : s.Due) (b : Bool) :
    (s.exchangeEnded b).Lone ∧ (s.exchangeEnded b).sequencer.building = none ∧
      (s.FlagWf → s.sequencer.idleWait = none → (s.exchangeEnded b).Timed) := by
  have out : s.requestOut = false := State.requestOut_eq_false.mpr ⟨due.signal, due.building⟩
  have quiet : s.link.signal.1.isSome = true → s.link.signal.2 = none := by
    rw [due.signal]
    nofun
  have unbuilt : s.sequencer.building.isSome = true → s.link.signal = (none, none) := fun _ => due.signal
  unfold State.exchangeEnded
  split
  next configured =>
    split
    · refine ⟨⟨quiet, unbuilt, fun _ => out⟩, due.building, fun flag idle => ⟨due.released, flag, fun h => ?_,
        fun _ => configured⟩⟩
      exact absurd h (by simp [idle])
    · exact State.chooseNext_spec due
  next unconfigured =>
    refine ⟨⟨quiet, unbuilt, fun h => absurd (due.owed.symm.trans h) (by decide)⟩, due.building,
      fun flag _ => ⟨due.released, flag, fun _ => ⟨Bool.eq_false_iff.mpr unconfigured, out⟩, fun h => ?_⟩⟩
    exact absurd (due.owed.symm.trans h) (by decide)

end Sys2Proof.Machine
end

section
/-! SUPPORT. The law of one request, command by command (R31, R54, R62, R64). -/

namespace Sys2Proof.Machine

/-! ## The phases of an exchange (R31, R33) -/

theorem Link.signal_setPhase (p : LinkPhase) (s : State) :
    (s.setPhase p).link.signal.1 = s.link.signal.1 := rfl

/-- A request in flight is the only one out. -/
theorem State.Lone.inFlight {s : State} (l : s.Lone) {k : RequestKind} (flight : s.link.signal.2 = some k) :
    s.link.signal.1 = none ∧ s.sequencer.building = none ∧ s.sequencer.choiceOwed = false ∧ s.requestOut = true := by
  have out : s.requestOut = true := by rw [State.requestOut_eq, flight]; simp
  refine ⟨?_, ?_, ?_, out⟩
  · by_contra held
    have := l.held (Option.isSome_iff_ne_none.mpr held)
    rw [flight] at this
    cases this
  · by_contra building
    have := congrArg Prod.snd (l.building (Option.isSome_iff_ne_none.mpr building))
    rw [flight] at this
    cases this
  · rw [Bool.eq_false_iff]
    exact fun h => absurd (l.owed h) (by simp [out])

/-- A held request is the only one out. -/
theorem State.Lone.of_held {s : State} (l : s.Lone) {r : Request} (held : s.link.held = some r) :
    s.link.signal.2 = none ∧ s.sequencer.building = none ∧ s.sequencer.choiceOwed = false ∧ s.requestOut = true := by
  have first : s.link.signal.1 = some r.kind := by rw [Link.signal, held]; rfl
  have out : s.requestOut = true := by rw [State.requestOut_eq, first]; simp
  refine ⟨l.held (by rw [first]; rfl), ?_, ?_, out⟩
  · by_contra building
    have := congrArg Prod.fst (l.building (Option.isSome_iff_ne_none.mpr building))
    rw [first] at this
    cases this
  · rw [Bool.eq_false_iff]
    exact fun h => absurd (l.owed h) (by simp [out])

/-- While a request is out the idle wait is stopped. -/
theorem State.Timed.idle_of_out {s : State} (k : s.Timed) (out : s.requestOut = true) : s.sequencer.idleWait = none := by
  by_contra idle
  have := (k.idle (Option.isSome_iff_ne_none.mpr idle)).2
  simp [out] at this

/-- The exchange in flight ends: nothing is out and a choice is due. -/
theorem State.Lone.ends {s t : State} (l : s.Lone) (k : s.Timed) {kind : RequestKind}
    (flight : s.link.signal.2 = some kind) (calm : Calm s t) {p : LinkPhase} (quiet : p.inFlight = false) :
    (t.setPhase p).Due ∧ (t.setPhase p).FlagWf ∧ (t.setPhase p).sequencer.idleWait = none := by
  obtain ⟨held, building, owed, out⟩ := l.inFlight flight
  have timed := calm.timed k
  refine ⟨⟨timed.released, Prod.ext ?_ ?_, calm.building.trans building, calm.owed.trans owed⟩, timed.flag, ?_⟩
  · exact (congrArg Prod.fst calm.signal).trans held
  · cases p with
    | idle | guarding => rfl
    | sending | awaiting => cases quiet
  · exact timed.idle_of_out (calm.requestOut.trans out)

/-- The same, when the settling of a centre exchange has come between. -/
theorem Settles.inFlight {s t : State} (h : Settles s t) (l : s.Lone) {kind : RequestKind}
    (flight : s.link.signal.2 = some kind) : t.link.signal.2 = some kind := by
  obtain ⟨-, -, -, out⟩ := l.inFlight flight
  rw [(h.out l out).1, flight]

theorem State.phaseAfter_quiet (x : Exchange) (s : State) : (s.phaseAfter x).inFlight = false := by
  unfold State.phaseAfter
  split <;> rfl

theorem Calm.due {s t : State} (h : Calm s t) (due : s.Due) (flag : s.FlagWf) (idle : s.sequencer.idleWait = none) :
    t.Due ∧ t.FlagWf ∧ t.sequencer.idleWait = none := by
  refine ⟨⟨h.reset.trans due.released, h.signal.trans due.signal, h.building.trans due.building, h.owed.trans due.owed⟩,
    ?_, ?_⟩
  · rw [State.FlagWf, h.flag, h.configured]
    exact flag
  · have := h.idle
    rw [idle] at this
    exact Option.not_isSome_iff_eq_none.mp (by simp [this])

/-- The law of one request between commands: nothing is being built. -/
abbrev State.OneRequest (s : State) : Prop := s.Lone ∧ s.Timed ∧ s.sequencer.building = none

theorem Calm.oneRequest {s t : State} (h : Calm s t) (k : s.OneRequest) : t.OneRequest := by
  obtain ⟨lone, timed, building⟩ := k
  exact ⟨h.lone lone, h.timed timed, h.building.trans building⟩

theorem State.exchangeEnded_one {s : State} (due : s.Due) (flag : s.FlagWf) (idle : s.sequencer.idleWait = none)
    (b : Bool) : (s.exchangeEnded b).OneRequest := by
  obtain ⟨lone, building, timed⟩ := State.exchangeEnded_spec due b
  exact ⟨lone, timed flag idle, building⟩

theorem State.handOutcome_calm (x : Exchange) (s : State) : Calm s (s.handOutcome x) :=
  (s.handOutcome_touches x).calm (by decide)

theorem State.concludeExchange_one {s : State} {x : Exchange} (o : ChoiceOrder) (lone : s.Lone) (timed : s.Timed)
    (phase : s.link.phase = .awaiting x) : (s.concludeExchange o x).OneRequest := by
  have flight : s.link.signal.2 = some x.request.kind := by rw [Link.signal, phase]
  have accounts : Calm s (((s.settlePaths x).settleCounters x).noteOutcome x) :=
    ((s.settlePaths_calm x).trans (State.settleCounters_calm x _)).trans (State.noteOutcome_calm x _)
  obtain ⟨due, flag, idle⟩ := lone.ends timed flight accounts (State.phaseAfter_quiet x _)
  obtain ⟨due, flag, idle⟩ := (State.handOutcome_calm x _).due due flag idle
  exact State.exchangeEnded_one due flag idle _

theorem State.endExchange_one {s : State} (o : ChoiceOrder) (k : s.OneRequest) {kind : RequestKind}
    (flight : s.link.signal.2 = some kind) : (s.endExchange o).OneRequest := by
  obtain ⟨lone, timed, building⟩ := k
  have settles := State.settleCentre_settles timed.released
  obtain ⟨-, -, -, out⟩ := lone.inFlight flight
  have after : s.settleCentre.OneRequest :=
    ⟨settles.lone lone, settles.timed lone timed, (settles.out lone out).2.trans building⟩
  unfold State.endExchange
  dsimp only
  split
  next x phase => exact State.concludeExchange_one o after.1 after.2.1 phase
  · exact after
  · exact after
  · exact after

theorem State.endMark_one {s : State} (k : s.OneRequest) {kind : RequestKind} (flight : s.link.signal.2 = some kind) :
    s.endMark.OneRequest := by
  obtain ⟨lone, timed, building⟩ := k
  have settles := State.settleCentre_settles timed.released
  obtain ⟨due, flag, idle⟩ := (settles.lone lone).ends (settles.timed lone timed) (settles.inFlight lone flight)
    (.refl _) (p := .idle) rfl
  have opened : Calm (s.settleCentre.setPhase .idle) (if s.settleCentre.configured && s.settleCentre.markStands then
      (s.settleCentre.setPhase .idle).openAtMark else s.settleCentre.setPhase .idle) :=
    Calm.ite (State.openAtMark_calm _) (.refl _)
  obtain ⟨due, flag, idle⟩ := opened.due due flag idle
  exact State.exchangeEnded_one due flag idle _

/-- A held request starts: it is in flight and no longer held. -/
theorem State.startTransmission_one {s : State} {r : Request} (k : s.OneRequest) (held : s.link.held = some r) :
    (s.startTransmission r).OneRequest := by
  obtain ⟨lone, timed, -⟩ := k
  obtain ⟨-, building, owed, out⟩ := lone.of_held held
  have signal : (s.startTransmission r).link.signal = (none, some r.kind) := rfl
  have still : (s.startTransmission r).sequencer = s.sequencer := rfl
  have idle : (s.startTransmission r).sequencer.idleWait = none := timed.idle_of_out out
  refine ⟨⟨?_, ?_, ?_⟩, ⟨timed.released, timed.flag, ?_, timed.owed⟩, building⟩
  · rw [signal]
    nofun
  · rw [still, building]
    nofun
  · rw [still, owed]
    nofun
  · rw [idle]
    nofun

theorem State.leaveGuard_one {s : State} (k : s.OneRequest) : s.leaveGuard.OneRequest := by
  unfold State.leaveGuard
  split
  next gap remaining phase =>
    split
    · exact k
    · split
      next r held => exact State.startTransmission_one k held
      next held =>
        refine Calm.oneRequest ?_ k
        refine (s.setPhase_touches .idle).calm_link ?_ (by decide)
        rw [Link.signal, Link.signal, phase]
        rfl
  · exact k
  · exact k
  · exact k

theorem State.startHeld_one {s : State} (k : s.OneRequest) : s.startHeld.OneRequest := by
  unfold State.startHeld
  split
  · exact k
  next r held =>
    split
    · exact k
    · split
      · exact State.startTransmission_one k held
      · exact State.startTransmission_one k held
      · exact k
      · exact k
      · exact k

/-! ## Frames and timeouts (R33, R34, R37) -/

theorem State.setReceiving_calm (p : Path) (a : Option Arrival) (s : State) : Calm s (s.setReceiving p a) :=
  (s.setReceiving_touches p a).calm_link rfl (by decide)

/-- A change of the exchange in flight that keeps its request. -/
theorem State.setPhase_calm {s : State} {p : LinkPhase} (signal : (s.setPhase p).link.signal = s.link.signal) :
    Calm s (s.setPhase p) := (s.setPhase_touches p).calm_link signal (by decide)

theorem State.endLate_calm (p : Path) (e : Bool) (b : List Byte) (s : State) : Calm s (s.endLate p e b) := by
  unfold State.endLate
  dsimp only
  have stray := s.noteStray_calm .late s.link.lastExchange p (classifyLate s.link.lastExchange e b).result
  split
  next gap remaining phase =>
    refine stray.trans (State.setPhase_calm ?_)
    rw [Link.signal, Link.signal, phase]
    rfl
  · exact stray
  · exact stray
  · exact stray

theorem Exchange.afterFrame_request (x : Exchange) (p : Path) (cls : FrameClass) (b : List Byte) (others : Bool) :
    (x.afterFrame p cls b others).1.request = x.request := by
  unfold Exchange.afterFrame
  dsimp only
  split
  · rfl
  · split <;> rfl

theorem State.setAwaiting_signal {s : State} {x y : Exchange} (phase : s.link.signal.2 = some x.request.kind)
    (request : y.request = x.request) : (s.setPhase (.awaiting y)).link.signal = s.link.signal := by
  refine Prod.ext rfl ?_
  rw [phase, ← request]
  rfl

theorem State.endBelonging_one {s : State} {x : Exchange} (k : s.OneRequest) (flight : s.link.signal.2 = some x.request.kind)
    (p : Path) (e : Bool) (b : List Byte) (o : ChoiceOrder) : (s.endBelonging x p e b o).OneRequest := by
  unfold State.endBelonging
  dsimp only
  have stray : Calm s (if x.duplicates p (classify x.ident e b) then s.noteStray .duplicate (some x.ident) p .valid
      else s) := Calm.ite (State.noteStray_calm _ _ _ _ _) (.refl s)
  have kept := State.setAwaiting_signal (s := if x.duplicates p (classify x.ident e b) then
      s.noteStray .duplicate (some x.ident) p .valid else s) ((congrArg Prod.snd stray.signal).trans flight)
    (x.afterFrame_request p (classify x.ident e b) b (s.belongingOn x (otherPath p)))
  have calm := stray.trans (State.setPhase_calm kept)
  split
  · exact State.endExchange_one o (calm.oneRequest k) ((congrArg Prod.snd calm.signal).trans flight)
  · exact calm.oneRequest k

theorem State.endFrame_one {s : State} (k : s.OneRequest) (p : Path) (e : Bool) (b : List Byte) (o : ChoiceOrder) :
    (s.endFrame p e b o).OneRequest := by
  unfold State.endFrame
  split
  · exact k
  · have heard := (s.setReceiving_calm p none).oneRequest k
    dsimp only
    split
    · exact heard
    · split
      · exact (State.endLate_calm p e b _).oneRequest heard
      next x phase _ =>
        refine State.endBelonging_one heard ?_ p e b o
        show s.link.signal.2 = _
        rw [Link.signal, phase]
      · unfold State.endOutlived
        split
        · exact (State.noteStray_calm _ _ _ _ _).oneRequest heard
        · exact heard

theorem State.expireReply_one {s : State} (k : s.OneRequest) (o : ChoiceOrder) : (s.expireReply o).OneRequest := by
  unfold State.expireReply
  split
  next x phase =>
    split
    · exact k
    · have flight : s.link.signal.2 = some x.request.kind := by rw [Link.signal, phase]
      have calm := State.setPhase_calm (State.setAwaiting_signal (y := { x with remaining := 0, expired := true }) flight rfl)
      dsimp only
      split
      · exact calm.oneRequest k
      · exact State.endExchange_one o (calm.oneRequest k) ((congrArg Prod.snd calm.signal).trans flight)
  · exact k
  · exact k
  · exact k

/-! ## The centre exchange and the idle wait (R57, R64, R159) -/

/-- A choice that waited for the orders of a reply is made (R57). -/
theorem State.payChoice_one {s : State} (k : s.OneRequest) : s.payChoice.OneRequest := by
  obtain ⟨lone, timed, building⟩ := k
  unfold State.payChoice
  split
  next owed =>
    have out := lone.owed owed
    obtain ⟨signal, -⟩ := State.requestOut_eq_false.mp out
    have due : State.Due { s with sequencer := { s.sequencer with choiceOwed := false } } :=
      ⟨timed.released, signal, building, rfl⟩
    obtain ⟨lone', building', timed'⟩ := State.chooseNext_spec due
    refine ⟨lone', timed' timed.flag ?_, building'⟩
    show s.sequencer.idleWait = none
    by_contra idle
    have := (timed.idle (Option.isSome_iff_ne_none.mpr idle)).1
    rw [timed.owed owed] at this
    cases this
  · exact ⟨lone, timed, building⟩

theorem State.completeBuild_one {s : State} (lone : s.Lone) (timed : s.Timed) : s.completeBuild.OneRequest := by
  obtain ⟨-, lone', building, timed', -⟩ := State.completeBuild_spec timed.released lone
  exact ⟨lone', timed' timed, building⟩

theorem State.settleNow_one {s : State} (k : s.OneRequest) : s.settleNow.OneRequest := by
  obtain ⟨lone, timed, -⟩ := k
  have settles := State.settleCentre_settles timed.released
  exact State.payChoice_one (State.completeBuild_one (settles.lone lone) (settles.timed lone timed))

theorem State.expireIdleWait_one {s : State} (k : s.OneRequest) : s.expireIdleWait.OneRequest := by
  obtain ⟨lone, timed, building⟩ := k
  unfold State.expireIdleWait
  split
  next idle =>
    obtain ⟨unconfigured, out⟩ := timed.idle idle
    obtain ⟨signal, -⟩ := State.requestOut_eq_false.mp out
    have unowed : s.sequencer.choiceOwed = false := by
      rw [Bool.eq_false_iff]
      exact fun h => absurd (timed.owed h) (by simp [unconfigured])
    exact State.completeBuild_one ⟨lone.held, fun _ => signal, fun h => absurd (unowed.symm.trans h) (by decide)⟩
      ⟨timed.released, timed.flag, nofun, timed.owed⟩
  · exact ⟨lone, timed, building⟩

/-! ## The commands -/

theorem State.release_oneRequestWf {s : State} (asserted : s.resetAsserted = true) (k : s.OneRequestWf) (rate : BitVec 2)
    (trunk : BitVec 7) (high : Bool) : (s.release rate trunk high).OneRequestWf := by
  obtain ⟨held, building, -, owed, quiet⟩ := k
  obtain ⟨unconfigured, out⟩ := quiet asserted
  exact ⟨held, building, fun _ => ⟨unconfigured, out⟩, owed, nofun⟩

/-- What a command does while the reset input is released; the two commands of the reset input are no events. -/
def eventOf : Instr → State → State
  | .hardwareReset => id
  | .resetRelease _ _ _ => id
  | .transmissionStart => State.startHeld
  | .endOfTransmission => fun t => match t.link.phase with
    | .sending x => t.endTransmission x
    | .idle | .awaiting _ | .guarding _ _ => t
  | .frameEnd p e b o => State.endFrame p e b o
  | .replyTimeout o => State.expireReply o
  | .guardGapElapsed => State.leaveGuard
  | .builtInIdleWaitExpiry => State.expireIdleWait
  | .intervalTimerExpiry o => State.expireInterval o
  | .evaluationTimerExpiry o => fun t => if t.intervalOpen then t.closeInterval o else t
  | .bandEvaluation => State.takeEvaluation
  | .waitingResultOffer => State.offerWaiting
  | .centreExchangeReceived => fun t => match t.centre.unsettled with
    | some (.received _) => t.settleNow
    | some .failed | none => t
  | .centreExchangeFailed => fun t => match t.centre.unsettled with
    | some .failed => t.settleNow
    | some (.received _) | none => t
  | .compositionPassVisit => fun t => match t.composer.pass with
    | some g => (t.visit g).countVisited
    | none => t
  | .dwellTimerExpiry g => fun t => if t.signing && decide (g < t.gantryCount) then t.expireDwell g else t
  | .mergeHoldExpiry n => State.expireHold n
  | .refreshTimeReached g => fun t => if t.configured && decide (g < t.gantryCount) then t.reachRefresh g else t
  | .frameStart p => State.startFrame p

theorem exec_event {c : Instr} (s : State) (h1 : c ≠ .hardwareReset) (h2 : ∀ r k p, c ≠ .resetRelease r k p) :
    exec c s = s.unlessReset (eventOf c) := by
  cases c with
  | hardwareReset => exact absurd rfl h1
  | resetRelease r k p => exact absurd rfl (h2 r k p)
  | _ => rfl

/-- Every event keeps the law of one request. -/
theorem eventOf_one {s : State} (k : s.OneRequest) (c : Instr) : (eventOf c s).OneRequest := by
  cases c with
  | hardwareReset | resetRelease => exact k
  | transmissionStart => exact State.startHeld_one k
  | endOfTransmission =>
    unfold eventOf
    dsimp only
    split
    next x phase =>
      have flight : s.link.signal.2 = some x.request.kind := by rw [Link.signal, phase]
      have stopped : Calm s s.stopDriving := s.stopDriving_touches.calm_link rfl (by decide)
      unfold State.endTransmission
      split
      · exact State.endMark_one (stopped.oneRequest k) flight
      · exact (stopped.trans (State.setPhase_calm (State.setAwaiting_signal flight rfl))).oneRequest k
    · exact k
    · exact k
    · exact k
  | frameEnd p e b o => exact State.endFrame_one k p e b o
  | replyTimeout o => exact State.expireReply_one k o
  | guardGapElapsed => exact State.leaveGuard_one k
  | builtInIdleWaitExpiry => exact State.expireIdleWait_one k
  | intervalTimerExpiry o => exact (s.expireInterval_calm o).oneRequest k
  | evaluationTimerExpiry o => exact (Calm.ite (s.closeInterval_calm o) (.refl s)).oneRequest k
  | bandEvaluation => exact s.takeEvaluation_calm.oneRequest k
  | waitingResultOffer => exact (s.offerWaiting_touches.calm (by decide)).oneRequest k
  | centreExchangeReceived =>
    unfold eventOf
    dsimp only
    split
    · exact State.settleNow_one k
    · exact k
    · exact k
  | centreExchangeFailed =>
    unfold eventOf
    dsimp only
    split
    · exact State.settleNow_one k
    · exact k
    · exact k
  | compositionPassVisit =>
    unfold eventOf
    dsimp only
    split
    · exact (((s.visit_touches _).calm (by decide)).trans (State.countVisited_calm _)).oneRequest k
    · exact k
  | dwellTimerExpiry g => exact (Calm.ite ((s.expireDwell_touches g).calm (by decide)) (.refl s)).oneRequest k
  | mergeHoldExpiry n => exact ((s.expireHold_touches n).calm (by decide)).oneRequest k
  | refreshTimeReached g => exact (Calm.ite ((s.reachRefresh_touches g).calm (by decide)) (.refl s)).oneRequest k
  | frameStart p =>
    exact (Calm.ite (s.setReceiving_calm p _) (.refl s)).oneRequest k

/-- Settles O59: a request is chosen only when the exchange before it has ended, the orders of a reply come while none
is out or leave the one out alone, and what an entry to STANDBY chooses is built at once. -/
theorem oneRequestLaw : Obligations.OneRequestLaw := by
  unfold Obligations.OneRequestLaw
  intro s t flag k h
  unfold step at h
  split at h
  · cases h
    exact s.tick_calm.oneRequestWf k
  next c rest _ =>
    by_cases reset : c = .hardwareReset
    · subst reset
      cases h
      exact reset_oneRequestWf
    · by_cases release : ∃ r a p, c = .resetRelease r a p
      · obtain ⟨r, a, p, rfl⟩ := release
        have e := (Host.Outcome.next.inj h).symm
        rw [e]
        split
        next asserted => exact State.release_oneRequestWf (s := { s with pending := rest }) asserted k r a p
        · exact k
      · rw [exec_event _ reset fun r a p e => release ⟨r, a, p, e⟩] at h
        obtain ⟨-, rfl⟩ | ⟨asserted, rfl⟩ := State.unlessReset_cases h
        · exact k
        · have before : State.OneRequest { s with pending := rest } :=
            (State.oneRequestWf_iff (s := { s with pending := rest }) asserted).mp ⟨flag, k⟩
          have after := eventOf_one before c
          obtain ⟨-, timed, -⟩ := id after
          exact ((State.oneRequestWf_iff timed.released).mpr after).2

end Sys2Proof.Machine
end

section
/-! SUPPORT. The law of the Report Queue and of the credit: which operations add an entry, and that every step keeps
room for the responses of the credit in flight (R161, R166, R169). -/

namespace Sys2Proof.Machine

/-! ## Operations that add no entry -/

/-- The Report Queue holds as many entries as before, and what waits, is carried or is unsettled is as it was. -/
structure Mute (s t : State) : Prop where
  queue : t.centre.queue.length = s.centre.queue.length
  waiting : t.waiting = s.waiting
  carried : t.centre.carried = s.centre.carried
  unsettled : t.centre.unsettled = s.centre.unsettled

theorem Mute.refl (s : State) : Mute s s := ⟨rfl, rfl, rfl, rfl⟩

theorem Mute.trans {s t u : State} (h : Mute s t) (k : Mute t u) : Mute s u :=
  ⟨k.queue.trans h.queue, k.waiting.trans h.waiting, k.carried.trans h.carried, k.unsettled.trans h.unsettled⟩

theorem Mute.ite {s t u : State} {c : Prop} [Decidable c] (h : Mute s t) (k : Mute s u) :
    Mute s (if c then t else u) := by split <;> assumption

theorem Touches.mute {ps : List Part} {s t : State} (h : Touches ps s t)
    (free : Part.centre ∉ ps ∧ Part.waiting ∉ ps) : Mute s t := by
  have centre : t.centre = s.centre := h .centre free.1
  exact ⟨by rw [centre], h .waiting free.2, by rw [centre], by rw [centre]⟩

theorem Mute.reports {s t : State} (h : Mute s t) (k : s.ReportsWf) : t.ReportsWf := by
  rw [State.ReportsWf, h.queue, h.waiting]
  exact k

/-- The credit's room is kept by an operation that admits nothing and leaves the request out. -/
theorem Mute.credit {s t : State} (h : Mute s t) (signal : t.link.signal = s.link.signal) (k : s.CreditWf) :
    t.CreditWf := by
  rw [State.CreditWf, h.carried, h.queue, h.unsettled, Link.outKind_eq, signal, ← Link.outKind_eq]
  exact k

/-- The room that the credit keeps while the end of its exchange waits to be settled. -/
def State.Kept (s : State) : Prop :=
  ∀ c ∈ s.centre.carried, s.centre.queue.length + c.credit ≤ Config.reportQueueSize ∧ s.centre.unsettled.isSome = true

theorem State.Kept.of_none {s : State} (h : s.centre.carried = none) : s.Kept := by
  intro c hc
  rw [h] at hc
  cases hc

theorem State.Kept.credit {s : State} (h : s.Kept) : s.CreditWf := fun c hc => ⟨(h c hc).1, .inl (h c hc).2⟩

theorem Mute.kept {s t : State} (h : Mute s t) (k : s.Kept) : t.Kept := by
  rw [State.Kept, h.carried, h.queue, h.unsettled]
  exact k

theorem State.closeInterval_mute (o : CountOrder) (s : State) : Mute s (s.closeInterval o) := by
  have stopped : Mute s { s with sequencer := { s.sequencer with evaluationTimer := none } } := ⟨rfl, rfl, rfl, rfl⟩
  exact (((stopped.trans ((State.payCount_touches _).mute (by decide))).trans
    ((State.closeReduction_touches _).mute (by decide))).trans ((State.noteClose_touches _ o).mute (by decide))).trans
      ⟨rfl, rfl, rfl, rfl⟩

theorem State.expireInterval_mute (o : CountOrder) (s : State) : Mute s (s.expireInterval o) := by
  unfold State.expireInterval
  split
  · have reloaded : Mute s { s with sequencer := { s.sequencer with
        intervalTimer := some (s.par.intervalLength * 1000) } } := ⟨rfl, rfl, rfl, rfl⟩
    exact (Mute.ite (reloaded.trans (State.closeInterval_mute o _)) reloaded).trans ⟨rfl, rfl, rfl, rfl⟩
  · exact .refl s

/-- Waiting results find no room while the law of the Report Queue holds (R97, R169). -/
theorem State.offerWaiting_mute {s : State} (k : s.ReportsWf) : Mute s s.offerWaiting := by
  obtain ⟨-, waits⟩ := k
  unfold State.offerWaiting
  cases e : s.waiting with
  | nil => exact ⟨rfl, e.symm, rfl, rfl⟩
  | cons r rest =>
    have full : s.centre.queue.length = Config.reportQueueSize := waits.resolve_left (by rw [e]; nofun)
    have no_room : s.hasRoom (.injectionResult r) = false := by
      rw [State.hasRoom, full]
      rfl
    unfold offerFrom
    rw [if_neg (by simp [no_room])]
    exact ⟨rfl, e.symm, rfl, rfl⟩

/-! ## Operations that add entries while nothing is carried -/

/-- The law of the Report Queue stands, and the carried set is as it was. -/
structure Offers (s t : State) : Prop where
  reports : s.ReportsWf → t.ReportsWf
  carried : t.centre.carried = s.centre.carried

theorem Mute.offers {s t : State} (h : Mute s t) : Offers s t := ⟨h.reports, h.carried⟩

theorem Offers.refl (s : State) : Offers s s := (Mute.refl s).offers

theorem Offers.trans {s t u : State} (h : Offers s t) (k : Offers t u) : Offers s u :=
  ⟨fun r => k.reports (h.reports r), k.carried.trans h.carried⟩

theorem Offers.ite {s t u : State} {c : Prop} [Decidable c] (h : Offers s t) (k : Offers s u) :
    Offers s (if c then t else u) := by split <;> assumption

theorem Offers.foldl {α : Type} {f : State → α → State} (h : ∀ s x, Offers s (f s x)) :
    ∀ (xs : List α) (s : State), Offers s (xs.foldl f s)
  | [], s => .refl s
  | x :: xs, s => (h s x).trans (Offers.foldl h xs (f s x))

theorem State.offerReport_offers (b : ReportBody) (s : State) : Offers s (s.offerReport b) := by
  refine ⟨State.offerReport_reports b, ?_⟩
  unfold State.offerReport
  split <;> rfl

theorem State.offerResult_offers (r : InjectionResult) (s : State) : Offers s (s.offerResult r) := by
  refine ⟨State.offerResult_reports r, ?_⟩
  unfold State.offerResult
  split
  · exact (s.offerReport_offers _).carried
  · rfl

theorem State.supervise_offers (n : Nat) (s : State) : Offers s (s.supervise n) :=
  (((s.setStation_touches n _).mute (by decide)).trans
    ((State.reportHealth_touches _ _ _).mute (by decide))).offers.trans
      (Offers.foldl (f := fun (t : State) r => t.offerResult r) (fun t r => t.offerResult_offers r) _ _)

theorem State.take_offers (n : Nat) (v : List LaneValues) (s : State) : Offers s (s.take n v) :=
  ((((s.setStation_touches n _).mute (by decide)).offers.trans (State.supervise_offers n _)).trans
    ((State.setStation_touches _ n _).mute (by decide)).offers).trans
      ((State.reportChange_touches _ _ _ _).mute (by decide)).offers

theorem State.judgeIvr_offers (a : Nat) (r : Option Reply) (s : State) : Offers s (s.judgeIvr a r) := by
  have note : ∀ (n : Nat) (p : PollResult) (r : Option Reply), Offers s (s.notePoll n p r) := fun n p r =>
    ((s.notePoll_touches n p r).mute (by decide)).offers
  unfold State.judgeIvr
  split
  · exact .refl s
  next n _ =>
    refine .ite (.refl s) (.ite ?_ ((s.setStation_touches n _).mute (by decide)).offers)
    unfold State.judgeOpen
    split
    · exact note _ _ _
    · refine .ite (note _ _ _) ?_
      split
      · exact note _ _ _
      · exact note _ _ _
      · exact .ite (note _ _ _) (.ite (note _ _ _) ((note _ _ _).trans (State.take_offers n _ _)))

theorem State.handOn_offers (g : Nat) (old : DeliveryRec) (b : Bool) (s : State) : Offers s (s.handOn g old b) := by
  unfold State.handOn
  dsimp only
  have change : ∀ c : Bool, Mute s (if c then s.readDeliveryChange g else s) := fun c =>
    .ite ((s.readDeliveryChange_touches g).mute (by decide)) (.refl s)
  have passes : ∀ c d : Bool, Mute s (if c then ((if d then s.readDeliveryChange g else s).requestSites g).requestPass g
      else s) := fun c d =>
    .ite (((change d).trans ((State.requestSites_touches _ g).mute (by decide))).trans
      ((State.requestPass_touches _ g).mute (by decide))) (.refl s)
  have confirmed : ∀ t : State, Mute s t → Mute s (if b then t.readConfirmation g else t) := fun t h =>
    .ite (h.trans ((t.readConfirmation_touches g).mute (by decide))) h
  have reported : ∀ t : State, Mute s t → Mute s (t.reportChange (alertKey .signFault g) old.signFault
      (s.deliveryRec g).signFault) := fun t h => h.trans ((t.reportChange_touches _ _ _).mute (by decide))
  exact .ite ((reported _ (confirmed _ (passes _ _))).offers.trans (State.offerReport_offers _ _))
    (reported _ (confirmed _ (passes _ _))).offers

theorem State.failAttempt_mute (g : Nat) (b : Bool) (s : State) : Mute s (s.failAttempt g b) :=
  (s.failAttempt_touches g b).mute (by decide)

theorem State.judgeSign_offers (q : Request) (r : Option Reply) (s : State) : Offers s (s.judgeSign q r) := by
  unfold State.judgeSign
  refine .ite (.refl s) ?_
  split
  · exact .refl s
  next g _ =>
    have entered : ∀ status shown old, Offers s ((s.enterLocal g status shown).handOn g old shown.isSome) :=
      fun status shown old => ((s.enterLocal_touches g status shown).mute (by decide)).offers.trans
        (State.handOn_offers _ _ _ _)
    refine .ite ?_ ?_
    · unfold State.judgeSgs
      dsimp only
      split
      · exact (s.failAttempt_mute g _).offers.trans (State.handOn_offers _ _ _ _)
      · split
        · exact (s.failAttempt_mute g _).offers.trans (State.handOn_offers _ _ _ _)
        · refine .ite (entered _ _ _) ?_
          split
          · exact (((s.setDelivery_touches g _).mute (by decide)).trans (State.failAttempt_mute g _ _)).offers.trans
              (State.handOn_offers _ _ _ _)
          · exact ((s.judgeLanes_touches g _ _ _).mute (by decide)).offers.trans (State.handOn_offers _ _ _ _)
    · unfold State.judgeSgq
      dsimp only
      split
      · exact .refl s
      · split
        · refine .ite (entered _ _ _) ?_
          split
          · exact .refl s
          · exact (((s.setDelivery_touches g _).mute (by decide)).trans
              ((State.placeQueried_touches _ g _ _).mute (by decide))).offers.trans (State.handOn_offers _ _ _ _)
        · exact .refl s

/-! ## The orders of a reply and the end of a centre exchange (R164, R166) -/

/-- A state with an emptied measurement keeps the law of the Report Queue, whatever waited. -/
theorem State.ReportsWf.emptied {s t : State} (k : s.ReportsWf) (queue : t.centre.queue.length ≤ s.centre.queue.length)
    (waiting : t.waiting = []) : t.ReportsWf := ⟨queue.trans k.1, .inl waiting⟩

theorem State.tableLoad_reports (a b c : Nat) (r : List (List Byte)) {s : State} (k : s.ReportsWf) :
    (s.tableLoad a b c r).1.ReportsWf := by
  unfold State.tableLoad
  split
  · exact k
  · split
    · exact k
    · dsimp only
      split
      · refine k.emptied ?_ ?_
        · show (State.lowerTableBound _).centre.queue.length ≤ _
          rw [State.lowerTableBound_touches _ .centre (by decide)]
          exact le_rfl
        · show (State.lowerTableBound _).waiting = []
          rw [State.lowerTableBound_touches _ .waiting (by decide)]
          rfl
      · exact k

theorem State.tableCheck_reports {s : State} (k : s.ReportsWf) : s.tableCheck.1.ReportsWf := by
  unfold State.tableCheck
  split
  · exact k
  · split
    · exact k
    · refine k.emptied ?_ ?_
      · show (State.enterStandby _).centre.queue.length ≤ _
        rw [State.enterStandby_touches _ .centre (by decide)]
        exact le_rfl
      · show (State.enterStandby _).waiting = []
        rw [State.enterStandby_touches _ .waiting (by decide)]
        rfl

theorem State.restartCleared_centre (s : State) : s.restartCleared.centre.queue = [] ∧ s.restartCleared.waiting = [] := by
  constructor
  · show (State.reportAgain _).centre.queue = []
    rw [State.reportAgain_touches _ .centre (by decide)]
    rfl
  · show (State.reportAgain _).waiting = []
    rw [State.reportAgain_touches _ .waiting (by decide)]
    rfl

theorem State.restart_reports {s : State} (k : s.ReportsWf) : s.restart.1.ReportsWf := by
  obtain ⟨queue, waiting⟩ := s.restartCleared_centre
  have cleared : s.restartCleared.ReportsWf := k.emptied (by rw [queue]; exact Nat.zero_le _) waiting
  rw [State.restart_eq]
  split
  · exact ((State.enterStandby_touches _).mute (by decide)).reports cleared
  · exact cleared

theorem State.carryOut_reports (o : Order) {s : State} (k : s.ReportsWf) : (s.carryOut o).1.ReportsWf := by
  cases o with
  | modeRun => exact (s.modeRun_touches.mute (by decide)).reports k
  | modeStandby => exact (s.modeStandby_touches.mute (by decide)).reports k
  | tableLoad a b c r => exact State.tableLoad_reports a b c r k
  | tableCheck => exact State.tableCheck_reports k
  | restart => exact State.restart_reports k
  | laneClose | carriagewayClose => exact ((s.closeRoad_touches _ _ _ _).mute (by decide)).reports k
  | shoulderOpen => exact ((s.shoulderOpen_touches _ _ _ _).mute (by decide)).reports k
  | orderClear => exact ((s.orderClear_touches _).mute (by decide)).reports k
  | limitSet => exact ((s.limitSet_touches _ _ _ _ _).mute (by decide)).reports k
  | laneHealthClear => exact ((s.laneHealthClear_touches _ _).mute (by decide)).reports k
  | inject => exact ((s.inject_touches _ _ _ _).mute (by decide)).reports k
  | pathForce => exact ((s.pathForce_touches _).mute (by decide)).reports k
  | pathMode => exact ((s.pathModeOrder_touches _).mute (by decide)).reports k
  | counterReset => exact (s.counterReset_touches.mute (by decide)).reports k
  | query => exact k
  | alertAck => exact ((s.alertAck_touches _).mute (by decide)).reports k
  | alertMask => exact ((s.alertMask_touches _ _).mute (by decide)).reports k

theorem State.takeOrder_reports (m : OrderMessage) {s : State} (k : s.ReportsWf) : (s.takeOrder m).ReportsWf := by
  refine State.offerReport_reports _ ?_
  unfold State.answerOrder
  split
  · exact State.carryOut_reports _ k
  · exact k
  · exact k

theorem State.takeOrders_reports (c : Nat) (p : List Byte) {s : State} (k : s.ReportsWf) :
    (s.takeOrders c p).ReportsWf := by
  have each : ∀ (ms : List OrderMessage) (t : State), t.ReportsWf →
      (ms.foldl (fun (t : State) m => t.takeOrder m) t).ReportsWf := by
    intro ms
    induction ms with
    | nil => exact fun _ h => h
    | cons m ms ih => exact fun t h => ih _ (State.takeOrder_reports m h)
  unfold State.takeOrders
  dsimp only
  split
  · exact each _ s k
  · exact each _ s k

theorem State.departCarried_reports (c : Carried) {s : State} (k : s.ReportsWf) : (s.departCarried c).ReportsWf := by
  have each : ∀ (ns : List Nat) (t : State), t.ReportsWf →
      (ns.foldl (fun (t : State) n => t.departReport n) t).ReportsWf := by
    intro ns
    induction ns with
    | nil => exact fun _ h => h
    | cons n ns ih => exact fun t h => ih _ (State.departReport_reports n h)
  unfold State.departCarried
  dsimp only
  split
  · rw [State.ReportsWf, State.advanceOffset_length]
    exact each _ s k
  · exact each _ s k

theorem State.relink_mute (s : State) : Mute s s.relink := by
  unfold State.relink
  exact .ite ⟨rfl, rfl, rfl, rfl⟩ ⟨rfl, rfl, rfl, rfl⟩

theorem State.moveCursor_mute (c : Carried) (s : State) : Mute s (s.moveCursor c) := by
  unfold State.moveCursor
  split
  · exact .ite ⟨rfl, rfl, rfl, rfl⟩ (.refl s)
  · exact .refl s

/-- The settling of a centre exchange keeps the law of the Report Queue, and drops what was carried; with no end to
settle it does nothing (R163, R164). -/
theorem State.settleCentre_reports {s : State} (k : s.ReportsWf) : s.settleCentre.ReportsWf ∧
    (s.centre.unsettled.isSome = true → s.settleCentre.centre.carried = none) ∧
    (s.centre.unsettled = none → s.settleCentre = s) := by
  unfold State.settleCentre
  split
  next none => exact ⟨k, fun h => absurd h (by simp [none]), fun _ => rfl⟩
  next failed =>
    refine ⟨?_, fun _ => rfl, fun h => absurd (failed.symm.trans h) nofun⟩
    unfold State.settleFailed
    dsimp only
    split
    · exact k
    · exact k
  next payload received =>
    refine ⟨?_, fun _ => rfl, fun h => absurd (received.symm.trans h) nofun⟩
    have delivered : State.ReportsWf { s.relink with
        alerts := s.relink.alerts.deliver (s.centre.carried.getD .nothing).notices } :=
      s.relink_mute.reports k
    exact State.takeOrders_reports _ _ ((State.moveCursor_mute _ _).reports (State.departCarried_reports _ delivered))

/-! ## The next request (R54, R159 to R161) -/

/-- The laws of the Report Queue and of the credit. -/
abbrev State.QueueLaws (s : State) : Prop := s.ReportsWf ∧ s.CreditWf

theorem Mute.laws {s t : State} (h : Mute s t) (signal : t.link.signal = s.link.signal) (k : s.QueueLaws) :
    t.QueueLaws := ⟨h.reports k.1, h.credit signal k.2⟩

/-- A centre request is built with the room that the queue has (R161). -/
theorem State.buildCentre_laws (i : Option Nat) {s : State} (k : s.ReportsWf) : (s.buildCentre i).QueueLaws := by
  refine ⟨k, ?_⟩
  rintro c ⟨⟩
  refine ⟨?_, .inr rfl⟩
  show s.centre.queue.length + min Config.maxCredit (Config.reportQueueSize - s.centre.queue.length) ≤ _
  have := k.1
  omega

theorem State.completeBuild_laws {s : State} (k : s.ReportsWf) (credit : s.sequencer.building = none → s.CreditWf) :
    s.completeBuild.QueueLaws := by
  unfold State.completeBuild
  split
  next none => exact ⟨k, credit none⟩
  · exact State.buildCentre_laws _ (State.settleCentre_reports k).1

theorem State.chooseNext_laws {s : State} (k : s.ReportsWf) (kept : s.Kept) : s.chooseNext.QueueLaws := by
  have chosen : Mute s s.chooseRequest := s.chooseRequest_touches.mute (by decide)
  exact State.completeBuild_laws (chosen.reports k) fun _ => (chosen.kept kept).credit

theorem State.exchangeEnded_laws (b : Bool) {s : State} (k : s.ReportsWf) (kept : s.Kept) :
    (s.exchangeEnded b).QueueLaws := by
  unfold State.exchangeEnded
  split
  · split
    · exact ⟨k, kept.credit⟩
    · exact State.chooseNext_laws k kept
  · exact ⟨k, kept.credit⟩

/-! ## The end of an exchange (R33, R166) -/

/-- Once the centre exchange before it is settled, an exchange in flight that is not a centre exchange has nothing
carried. -/
theorem State.settleCentre_carried {s : State} (lone : s.Lone) (k : s.QueueLaws) {kind : RequestKind}
    (flight : s.link.signal.2 = some kind) :
    ∀ c ∈ s.settleCentre.centre.carried,
      s.settleCentre.centre.queue.length + c.credit ≤ Config.reportQueueSize ∧ kind = .cxe := by
  obtain ⟨reports, credit⟩ := k
  obtain ⟨-, drops, idle⟩ := State.settleCentre_reports reports
  intro c hc
  cases e : s.centre.unsettled with
  | some x =>
    rw [drops (by rw [e]; rfl)] at hc
    cases hc
  | none =>
    rw [idle e] at hc ⊢
    obtain ⟨room, out⟩ := credit c hc
    refine ⟨room, ?_⟩
    obtain ⟨held, -⟩ := lone.inFlight flight
    rw [Link.outKind_eq, held, flight, e] at out
    simpa using out

/-- An exchange handed on: a centre exchange's end waits to be settled, and any other finds nothing carried. -/
theorem State.handOutcome_kept {s : State} {x : Exchange} (k : s.ReportsWf)
    (carried : ∀ c ∈ s.centre.carried, s.centre.queue.length + c.credit ≤ Config.reportQueueSize ∧ x.request.kind = .cxe) :
    (s.handOutcome x).ReportsWf ∧ (s.handOutcome x).Kept := by
  have nothing : x.request.kind ≠ .cxe → s.centre.carried = none := by
    intro other
    by_contra some
    obtain ⟨c, hc⟩ := Option.ne_none_iff_exists'.mp some
    exact other (carried c hc).2
  unfold State.handOutcome
  split
  next kind => exact ⟨k, .of_none (nothing (by simp [kind]))⟩
  next kind =>
    have offers := s.judgeIvr_offers x.request.address x.taken
    exact ⟨offers.reports k, .of_none (offers.carried.trans (nothing (by simp [kind])))⟩
  next kind =>
    have offers := s.judgeSign_offers x.request x.taken
    exact ⟨offers.reports k, .of_none (offers.carried.trans (nothing (by simp [kind])))⟩
  next kind =>
    have offers := s.judgeSign_offers x.request x.taken
    exact ⟨offers.reports k, .of_none (offers.carried.trans (nothing (by simp [kind])))⟩
  · exact ⟨k, fun c hc => ⟨(carried c hc).1, rfl⟩⟩

theorem State.concludeExchange_laws {s : State} {x : Exchange} (o : ChoiceOrder) (k : s.ReportsWf)
    (carried : ∀ c ∈ s.centre.carried, s.centre.queue.length + c.credit ≤ Config.reportQueueSize ∧ x.request.kind = .cxe) :
    (s.concludeExchange o x).QueueLaws := by
  have accounts : ∀ p, Mute s ((((s.settlePaths x).settleCounters x).noteOutcome x).setPhase p) := fun p =>
    ((((s.settlePaths_touches x).mute (by decide)).trans ((State.settleCounters_touches _ x).mute (by decide))).trans
      ((State.noteOutcome_touches _ x).mute (by decide))).trans ((State.setPhase_touches _ p).mute (by decide))
  have settled := accounts ((((s.settlePaths x).settleCounters x).noteOutcome x).phaseAfter x)
  obtain ⟨reports, kept⟩ := State.handOutcome_kept (settled.reports k) (by
    rw [settled.carried, settled.queue]
    exact carried)
  exact State.exchangeEnded_laws _ reports kept

theorem State.endExchange_laws {s : State} (o : ChoiceOrder) (lone : s.Lone) (k : s.QueueLaws) {x : Exchange}
    (phase : s.link.phase = .awaiting x) : (s.endExchange o).QueueLaws := by
  have flight : s.link.signal.2 = some x.request.kind := by rw [Link.signal, phase]
  have carried := State.settleCentre_carried lone k flight
  obtain ⟨reports, drops, idle⟩ := State.settleCentre_reports k.1
  have after : s.settleCentre.QueueLaws := by
    cases e : s.centre.unsettled with
    | some y => exact ⟨reports, (State.Kept.of_none (drops (by rw [e]; rfl))).credit⟩
    | none => exact (idle e).symm ▸ k
  unfold State.endExchange
  dsimp only
  split
  next y phase' =>
    refine State.concludeExchange_laws o reports fun c hc => ?_
    obtain ⟨room, kind⟩ := carried c hc
    refine ⟨room, ?_⟩
    have still := carried c hc
    cases e : s.centre.unsettled with
    | some z =>
      rw [drops (by rw [e]; rfl)] at hc
      cases hc
    | none =>
      rw [idle e, phase] at phase'
      cases phase'
      exact kind
  · exact after
  · exact after
  · exact after

theorem State.endMark_laws {s : State} (lone : s.Lone) (k : s.QueueLaws)
    (flight : s.link.signal.2 = some .mark) : s.endMark.QueueLaws := by
  have carried := State.settleCentre_carried lone k flight
  have nothing : s.settleCentre.centre.carried = none := by
    by_contra some
    obtain ⟨c, hc⟩ := Option.ne_none_iff_exists'.mp some
    exact absurd (carried c hc).2 (by decide)
  have opened : Mute s.settleCentre (if s.settleCentre.configured && s.settleCentre.markStands then
      (s.settleCentre.setPhase .idle).openAtMark else s.settleCentre.setPhase .idle) :=
    .ite (((State.setPhase_touches _ .idle).mute (by decide)).trans ((State.openAtMark_touches _).mute (by decide)))
      ((State.setPhase_touches _ .idle).mute (by decide))
  exact State.exchangeEnded_laws _ (opened.reports (State.settleCentre_reports k.1).1) (opened.kept (.of_none nothing))

/-! ## The events -/

theorem Calm.laws {s t : State} (calm : Calm s t) (mute : Mute s t) (k : s.QueueLaws) : t.QueueLaws :=
  mute.laws calm.signal k

/-- A held request that starts is out as before. -/
theorem State.startTransmission_laws {s : State} {r : Request} (k : s.QueueLaws) (held : s.link.held = some r) :
    (s.startTransmission r).QueueLaws := by
  obtain ⟨reports, credit⟩ := k
  refine ⟨reports, fun c hc => ?_⟩
  obtain ⟨room, out⟩ := credit c hc
  refine ⟨room, out.imp_right fun e => ?_⟩
  rw [Link.outKind_eq, Link.signal, held] at e
  exact e

theorem State.startHeld_laws {s : State} (k : s.QueueLaws) : s.startHeld.QueueLaws := by
  unfold State.startHeld
  split
  · exact k
  next r held =>
    split
    · exact k
    · split
      · exact State.startTransmission_laws k held
      · exact State.startTransmission_laws k held
      · exact k
      · exact k
      · exact k

theorem State.leaveGuard_laws {s : State} (k : s.QueueLaws) : s.leaveGuard.QueueLaws := by
  unfold State.leaveGuard
  split
  next gap remaining phase =>
    split
    · exact k
    · split
      next r held => exact State.startTransmission_laws k held
      · refine ((s.setPhase_touches .idle).mute (by decide)).laws ?_ k
        rw [Link.signal, Link.signal, phase]
        rfl
  · exact k
  · exact k
  · exact k

theorem State.endBelonging_laws {s : State} {x : Exchange} (lone : s.Lone) (k : s.QueueLaws)
    (flight : s.link.signal.2 = some x.request.kind) (p : Path) (e : Bool) (b : List Byte) (o : ChoiceOrder) :
    (s.endBelonging x p e b o).QueueLaws := by
  unfold State.endBelonging
  dsimp only
  have stray : Calm s (if x.duplicates p (classify x.ident e b) then s.noteStray .duplicate (some x.ident) p .valid
      else s) := Calm.ite (State.noteStray_calm _ _ _ _ _) (.refl s)
  have quiet : Mute s (if x.duplicates p (classify x.ident e b) then s.noteStray .duplicate (some x.ident) p .valid
      else s) := .ite ((s.noteStray_touches _ _ _ _).mute (by decide)) (.refl s)
  have kept := State.setAwaiting_signal (s := if x.duplicates p (classify x.ident e b) then
      s.noteStray .duplicate (some x.ident) p .valid else s) ((congrArg Prod.snd stray.signal).trans flight)
    (x.afterFrame_request p (classify x.ident e b) b (s.belongingOn x (otherPath p)))
  have calm := stray.trans (State.setPhase_calm kept)
  have laws := calm.laws (quiet.trans ((State.setPhase_touches _ _).mute (by decide))) k
  split
  · exact State.endExchange_laws o (calm.lone lone) laws rfl
  · exact laws

theorem State.endFrame_laws {s : State} (lone : s.Lone) (k : s.QueueLaws) (p : Path) (e : Bool) (b : List Byte)
    (o : ChoiceOrder) : (s.endFrame p e b o).QueueLaws := by
  unfold State.endFrame
  split
  · exact k
  · have calm := s.setReceiving_calm p none
    have heard := calm.laws ((s.setReceiving_touches p none).mute (by decide)) k
    dsimp only
    split
    · exact heard
    · split
      · exact (State.endLate_calm p e b _).laws ((State.endLate_touches _ p e b).mute (by decide)) heard
      next x phase _ =>
        refine State.endBelonging_laws (calm.lone lone) heard ?_ p e b o
        show s.link.signal.2 = _
        rw [Link.signal, phase]
      · refine Calm.laws (s := s.setReceiving p none) ?_ ((State.endOutlived_touches _ p e b).mute (by decide)) heard
        exact Calm.ite (State.noteStray_calm _ _ _ _ _) (.refl _)

theorem State.expireReply_laws {s : State} (lone : s.Lone) (k : s.QueueLaws) (o : ChoiceOrder) :
    (s.expireReply o).QueueLaws := by
  unfold State.expireReply
  split
  next x phase =>
    split
    · exact k
    · have flight : s.link.signal.2 = some x.request.kind := by rw [Link.signal, phase]
      have calm := State.setPhase_calm (State.setAwaiting_signal (y := { x with remaining := 0, expired := true }) flight rfl)
      have laws := calm.laws ((State.setPhase_touches _ _).mute (by decide)) k
      dsimp only
      split
      · exact laws
      · exact State.endExchange_laws o (calm.lone lone) laws rfl
  · exact k
  · exact k
  · exact k

/-- An end settled as an event of its own: nothing is carried any more when the next request is built or chosen. -/
theorem State.settleNow_laws {s : State} (released : s.resetAsserted = false) (lone : s.Lone) (k : s.ReportsWf)
    (unsettled : s.centre.unsettled.isSome = true) : s.settleNow.QueueLaws := by
  obtain ⟨reports, drops, -⟩ := State.settleCentre_reports k
  have kept : s.settleCentre.Kept := .of_none (drops unsettled)
  have settles := State.settleCentre_settles released
  have built := State.completeBuild_laws reports fun _ => kept.credit
  obtain ⟨-, -, -, -, unowed⟩ := State.completeBuild_spec (settles.reset.trans released) (settles.lone lone)
  unfold State.settleNow State.payChoice
  split
  next owed =>
    cases building : s.settleCentre.sequencer.building with
    | some i => exact absurd (unowed (by rw [building]; rfl)) (by simp [owed])
    | none =>
      have same : s.settleCentre.completeBuild = s.settleCentre := by rw [State.completeBuild, building]
      rw [same]
      exact State.chooseNext_laws reports kept
  · exact built

/-- Every event keeps the laws of the Report Queue and of the credit. -/
theorem eventOf_laws {s : State} (released : s.resetAsserted = false) (lone : s.Lone) (k : s.QueueLaws) (c : Instr) :
    (eventOf c s).QueueLaws := by
  cases c with
  | hardwareReset | resetRelease => exact k
  | transmissionStart => exact State.startHeld_laws k
  | endOfTransmission =>
    unfold eventOf
    dsimp only
    split
    next x phase =>
      have flight : s.link.signal.2 = some x.request.kind := by rw [Link.signal, phase]
      have stopped : Calm s s.stopDriving := s.stopDriving_touches.calm_link rfl (by decide)
      have quiet : Mute s s.stopDriving := s.stopDriving_touches.mute (by decide)
      unfold State.endTransmission
      split
      next mark => exact State.endMark_laws (stopped.lone lone) (stopped.laws quiet k) (flight.trans (congrArg _ mark))
      · exact (stopped.trans (State.setPhase_calm (State.setAwaiting_signal flight rfl))).laws
          (quiet.trans ((State.setPhase_touches _ _).mute (by decide))) k
    · exact k
    · exact k
    · exact k
  | frameEnd p e b o => exact State.endFrame_laws lone k p e b o
  | replyTimeout o => exact State.expireReply_laws lone k o
  | guardGapElapsed => exact State.leaveGuard_laws k
  | builtInIdleWaitExpiry =>
    unfold eventOf
    dsimp only
    unfold State.expireIdleWait
    split
    · exact State.completeBuild_laws k.1 nofun
    · exact k
  | intervalTimerExpiry o => exact (s.expireInterval_calm o).laws (s.expireInterval_mute o) k
  | evaluationTimerExpiry o =>
    exact (Calm.ite (s.closeInterval_calm o) (.refl s)).laws (.ite (s.closeInterval_mute o) (.refl s)) k
  | bandEvaluation => exact s.takeEvaluation_calm.laws (s.takeEvaluation_touches.mute (by decide)) k
  | waitingResultOffer => exact (s.offerWaiting_touches.calm (by decide)).laws (State.offerWaiting_mute k.1) k
  | centreExchangeReceived =>
    unfold eventOf
    dsimp only
    split
    next received => exact State.settleNow_laws released lone k.1 (by rw [received]; rfl)
    · exact k
    · exact k
  | centreExchangeFailed =>
    unfold eventOf
    dsimp only
    split
    next failed => exact State.settleNow_laws released lone k.1 (by rw [failed]; rfl)
    · exact k
    · exact k
  | compositionPassVisit =>
    unfold eventOf
    dsimp only
    split
    · exact (((s.visit_touches _).calm (by decide)).trans (State.countVisited_calm _)).laws
        (((s.visit_touches _).mute (by decide)).trans ((State.countVisited_touches _).mute (by decide))) k
    · exact k
  | dwellTimerExpiry g =>
    have touches := Touches.ite (c := (s.signing && decide (g < s.gantryCount)) = true) (s.expireDwell_touches g) (.refl _ s)
    exact (touches.calm (by decide)).laws (touches.mute (by decide)) k
  | mergeHoldExpiry n =>
    exact ((s.expireHold_touches n).calm (by decide)).laws ((s.expireHold_touches n).mute (by decide)) k
  | refreshTimeReached g =>
    have touches := Touches.ite (c := (s.configured && decide (g < s.gantryCount)) = true) (s.reachRefresh_touches g) (.refl _ s)
    exact (touches.calm (by decide)).laws (touches.mute (by decide)) k
  | frameStart p =>
    exact (Calm.ite (s.setReceiving_calm p _) (.refl s)).laws ((s.startFrame_touches p).mute (by decide)) k

/-- Settles O45: the credit is given within the room of the queue, nothing but the orders of its own reply is admitted
while it stands, and the settling that takes them drops it. -/
theorem reportQueueLaw : Obligations.ReportQueueLaw := by
  unfold Obligations.ReportQueueLaw
  intro s t one reports credit h
  have k : s.QueueLaws := ⟨reports, credit⟩
  have lone : s.Lone := by
    obtain ⟨held, building, -, owed, -⟩ := one
    rw [Link.held_eq, Link.inFlight_eq, Option.isSome_eq_false_iff, Option.isNone_iff_eq_none] at held
    exact ⟨held, fun h => absurd h (by simp [building]), fun h => (owed h).2⟩
  unfold step at h
  split at h
  · cases h
    exact s.tick_calm.laws (s.tick_touches.mute (by decide)) k
  next c rest _ =>
    by_cases reset : c = .hardwareReset
    · subst reset
      cases h
      exact ⟨reset_reportsWf, reset_creditWf⟩
    · by_cases release : ∃ r a p, c = .resetRelease r a p
      · obtain ⟨r, a, p, rfl⟩ := release
        rw [(Host.Outcome.next.inj h).symm]
        split
        · exact k
        · exact k
      · rw [exec_event _ reset fun r a p e => release ⟨r, a, p, e⟩] at h
        obtain ⟨-, rfl⟩ | ⟨released, rfl⟩ := State.unlessReset_cases h
        · exact k
        · exact eventOf_laws (s := { s with pending := rest }) released ⟨lone.held, lone.building, lone.owed⟩ k c

end Sys2Proof.Machine
end

section
/-! SUPPORT. The queue of commands, the passing of a millisecond, and the two commands of the reset input: what a step
does besides the events of the blocks (R1, R17, R187; assumptions 1, 3, 8). -/

namespace Sys2Proof.Machine

/-! ## The queue of commands -/

/-- Settles O1: `step` is defined so. -/
theorem stepRunsFrontCommand : Obligations.StepRunsFrontCommand := by
  unfold Obligations.StepRunsFrontCommand
  refine ⟨fun _ _ => rfl, fun c rest s front => ?_⟩
  unfold step
  rw [front]

/-- An event happens while the reset input is not asserted. -/
theorem State.unlessReset_released {s : State} (released : s.resetAsserted = false) (event : State → State) :
    s.unlessReset event = .next (event s) := by rw [State.unlessReset, released]; rfl

/-- While the reset input is not asserted, its release does not occur, and every other command but a hardware reset is
its event (assumption 1). -/
theorem exec_resetRelease_released {s : State} (released : s.resetAsserted = false) (rate : BitVec 2) (trunk : BitVec 7)
    (high : Bool) : exec (.resetRelease rate trunk high) s = .next s := by
  show execResetRelease rate trunk high s = _
  rw [execResetRelease, released]
  rfl

/-- Settles O3: the two commands of the reset input by their definitions, every other one by `exec_touches`. -/
theorem everyCommandAnswersNext : Obligations.EveryCommandAnswersNext := by
  unfold Obligations.EveryCommandAnswersNext
  intro c s
  by_cases reset : c = .hardwareReset
  · subst reset
    exact ⟨_, rfl, rfl⟩
  · by_cases release : ∃ r a p, c = .resetRelease r a p
    · obtain ⟨r, a, p, rfl⟩ := release
      refine ⟨_, rfl, ?_⟩
      split <;> rfl
    · have other : ∀ r a p, c ≠ .resetRelease r a p := fun r a p e => release ⟨r, a, p, e⟩
      have runs : exec c s = .next (if s.resetAsserted then s else eventOf c s) := exec_event s reset other
      exact ⟨_, runs, exec_touches reset other runs .pending (by decide)⟩

/-! ## One millisecond (assumption 3) -/

theorem State.tick_released {s : State} (released : s.resetAsserted = false) : s.tick = { s with
    sequencer := s.sequencer.tick
    link := { s.link with phase := s.link.tickPhase }
    control := s.control.map GantryControl.tick
    closures := { s.closures with register := s.closures.register.map Closure.tick }
    composer := { s.composer with delivery := s.composer.delivery.map DeliveryRec.tick } } := by
  rw [State.tick, released]
  rfl

theorem Link.tickPhase_idle {l : Link} (h : l.phase = .idle) : l.tickPhase = .idle := by rw [Link.tickPhase, h]

theorem Link.tickPhase_sending {l : Link} {x : Exchange} (h : l.phase = .sending x) : l.tickPhase = .sending x := by
  rw [Link.tickPhase, h]

theorem Link.tickPhase_awaiting {l : Link} {x : Exchange} (h : l.phase = .awaiting x) :
    l.tickPhase = .awaiting { x with remaining := x.remaining - 1 } := by rw [Link.tickPhase, h]

theorem Link.tickPhase_guarding {l : Link} {gap n : Nat} (h : l.phase = .guarding gap n) :
    l.tickPhase = .guarding gap (if l.arriving then n else n - 1) := by rw [Link.tickPhase, h]

/-- A merge-hold timer counts in a shoulder order, and a road closure has none. -/
theorem Closure.tick_eq (c : Closure) : c.tick = match c.body with
    | .road _ => c
    | .shoulder o => { c with body := .shoulder { o with mergeHold := o.mergeHold.map (fun n => n - 1) } } := by
  rcases c with ⟨id, slot, road | order⟩ <;> rfl

/-- Settles O2: `State.tick` timer by timer; a record that is not there has no timer to count. -/
theorem emptyQueuePassesOneMillisecond : Obligations.EmptyQueuePassesOneMillisecond := by
  unfold Obligations.EmptyQueuePassesOneMillisecond
  intro s empty
  have ticks : step s = .next s.tick := by rw [step, empty]
  refine ⟨fun asserted => ?_, fun released => ⟨s.tick, ticks, ?_⟩⟩
  · rw [ticks, State.tick, asserted]
    rfl
  · rw [State.tick_released released]
    refine ⟨rfl, rfl, Link.tickPhase_idle, fun _ => Link.tickPhase_sending, fun _ => Link.tickPhase_awaiting,
      fun _ _ => Link.tickPhase_guarding, fun g => ?_, fun g => ?_, ?_⟩
    · exact List.getD_map s.control .reset GantryControl.tick
    · exact List.getD_map s.composer.delivery .reset DeliveryRec.tick
    · exact List.map_congr_left fun c _ => c.tick_eq

/-! ## The reset input (R187) -/

/-- After a reset every Lane Overlay List is empty, of the 32 gantries and past them. -/
theorem ClosureUnit.reset_overlay (g l : Nat) : ClosureUnit.reset.overlay g l = [] := by
  have row : ClosureUnit.reset.overlays.getD g [] = List.replicate Config.maxLanes [] ∨
      ClosureUnit.reset.overlays.getD g [] = [] := by
    by_cases h : g < Config.maxGantries
    · exact .inl (List.getD_replicate _ h)
    · exact .inr (List.getD_eq_default _ _ (by simpa [ClosureUnit.reset] using h))
  obtain row | row := row
  · exact (congrArg (List.getD · l []) row).trans (List.getElem?_getD_replicate_default_eq ..)
  · exact congrArg (List.getD · l []) row

/-- Settles O5: the value of each item right after a hardware reset, read off `State.reset`. -/
theorem hardwareResetResets : Obligations.HardwareResetResets := by
  unfold Obligations.HardwareResetResets
  intro s
  have station : ∀ n, State.stationRec { State.reset with pending := s.pending } n = .empty := fun n =>
    List.getElem?_getD_replicate_default_eq ..
  have lane : ∀ l, StationRec.empty.lane l = .empty := fun l => List.getElem?_getD_replicate_default_eq ..
  have control : ∀ g, State.gantryControl { State.reset with pending := s.pending } g = .reset := fun g =>
    List.getElem?_getD_replicate_default_eq ..
  have delivery : ∀ g, State.deliveryRec { State.reset with pending := s.pending } g = .reset := fun g =>
    List.getElem?_getD_replicate_default_eq ..
  have shoulder : ∀ g, State.reset.shoulder g = .closed := fun g => List.getElem?_getD_replicate_default_eq ..
  refine ⟨{ State.reset with pending := s.pending }, rfl, rfl, rfl, rfl, rfl, ?link, ?sequencer, fun n => ?station,
    fun n l => ?lane, rfl, fun g => ?control, rfl, rfl, ClosureUnit.reset_overlay, shoulder, rfl, rfl, rfl,
    fun g => ?delivery, ?centre, ?alerts⟩
  case link => exact ⟨rfl, rfl, rfl, rfl, rfl, rfl, rfl, rfl, rfl, rfl, rfl, rfl, rfl, rfl⟩
  case sequencer => exact ⟨rfl, rfl, rfl, rfl, rfl, rfl⟩
  case station =>
    rw [station n]
    exact ⟨rfl, rfl, rfl, rfl, rfl, rfl, rfl, rfl, rfl, rfl, rfl, rfl⟩
  case lane =>
    rw [station n, lane l]
    exact ⟨rfl, rfl, rfl, rfl, rfl, rfl, rfl, rfl⟩
  case control =>
    rw [control g]
    exact ⟨rfl, rfl, rfl, rfl, rfl⟩
  case delivery =>
    rw [delivery g]
    exact ⟨rfl, rfl, rfl, rfl, rfl, rfl, rfl, rfl, rfl, rfl⟩
  case centre => exact ⟨rfl, rfl, rfl, rfl, rfl, rfl⟩
  case alerts => exact ⟨rfl, rfl, rfl, rfl, rfl⟩

/-- The straps as read give one of three rates: 3 is read as 250 kbit/s (R187). -/
theorem Straps.bitRate_spec (x : Straps) : (x.rate = 0 → x.bitRate = 250) ∧ (x.rate = 1 → x.bitRate = 500) ∧
    (x.rate = 2 → x.bitRate = 1000) ∧ (x.rate = 3 → x.bitRate = 250) := by
  refine ⟨?_, ?_, ?_, ?_⟩ <;>
  · intro rate
    rw [Straps.bitRate, rate]
    rfl

/-- Settles O6: the release reads them, and no command but a hardware reset touches straps or reset input then. -/
theorem resetReleaseReadsStraps : Obligations.ResetReleaseReadsStraps := by
  unfold Obligations.ResetReleaseReadsStraps
  refine ⟨fun rate trunk high s asserted => ?_, Straps.bitRate_spec, fun c s t runs reset released => ?_⟩
  · show execResetRelease rate trunk high s = _
    rw [execResetRelease, asserted]
    rfl
  · by_cases release : ∃ r a p, c = .resetRelease r a p
    · obtain ⟨r, a, p, rfl⟩ := release
      rw [exec_resetRelease_released released] at runs
      cases runs
      exact ⟨rfl, released⟩
    · have touches := exec_touches reset (fun r a p e => release ⟨r, a, p, e⟩) runs
      exact ⟨touches .straps (by decide), (touches .resetAsserted (by decide)).trans released⟩

end Sys2Proof.Machine
end

section
/-! SUPPORT. The flags of an alert entry after each report and acknowledge (R173, R175), the start and end of a
transmission (R30 to R32, R38, R60), and the frames of a reply as they are read (R34, R37, R180). -/

namespace Sys2Proof.Machine

/-! ## Flags of an alert entry (R173, R175) -/

theorem AlertUnit.rise_of_present {u : AlertUnit} {k : AlertKey} (h : k ∈ u.present) : u.rise k = u :=
  if_pos (by simpa using h)

theorem AlertUnit.fall_of_absent {u : AlertUnit} {k : AlertKey} (h : k ∉ u.present) : u.fall k = u :=
  if_neg (by simpa using h)

/-- A rise leaves the latch of every other entry alone, whatever the unit. -/
theorem AlertUnit.mem_rise_latched_of_ne (u : AlertUnit) {k x : AlertKey} (h : x ≠ k) :
    x ∈ (u.rise k).latched ↔ x ∈ u.latched := by
  unfold AlertUnit.rise
  split
  · rfl
  · simp [h]

theorem AlertUnit.rise_present_nodup {u : AlertUnit} (k : AlertKey) (h : u.present.Nodup) :
    (u.rise k).present.Nodup := by
  by_cases present : k ∈ u.present
  · rwa [AlertUnit.rise_of_present present]
  · rw [AlertUnit.rise, if_neg (by simpa using present)]
    simpa using nodup_insertKey present h

theorem AlertUnit.clears_iff {u : AlertUnit} {scope : AckScope} {x : AlertKey} :
    u.clears scope x = true ↔ (scope.selects x = true ∧ x ∉ u.present) ∧ x ∈ u.latched := by
  simp [AlertUnit.clears]

/-- Of latched entries an acknowledge drops those that are selected and not present. -/
theorem AlertUnit.not_clears_iff {u : AlertUnit} {scope : AckScope} {x : AlertKey} (latched : x ∈ u.latched) :
    (!u.clears scope x) = true ↔ ¬ (scope.selects x = true ∧ x ∉ u.present) := by
  rw [Bool.not_eq_true', ← Bool.not_eq_true, AlertUnit.clears_iff]
  exact not_congr (and_iff_left latched)

theorem AlertUnit.mem_acknowledge_latched (u : AlertUnit) (scope : AckScope) (x : AlertKey) :
    x ∈ (u.acknowledge scope).latched ↔ x ∈ u.latched ∧ ¬ (scope.selects x = true ∧ x ∉ u.present) := by
  show x ∈ u.latched.filter (fun k => !u.clears scope k) ↔ _
  rw [List.mem_filter]
  exact and_congr_right AlertUnit.not_clears_iff

theorem AlertUnit.mem_acknowledge_notices {u : AlertUnit} (wf : u.Wf) (scope : AckScope) (x : AlertKey) :
    x ∈ (u.acknowledge scope).notices ↔ x ∈ u.notices ∧ ¬ (scope.selects x = true ∧ x ∉ u.present) := by
  obtain ⟨-, -, -, sound, -⟩ := wf
  show x ∈ u.notices.filter (fun k => !u.clears scope k) ↔ _
  rw [List.mem_filter]
  exact and_congr_right fun owed => AlertUnit.not_clears_iff (sound x owed).1

/-- Settles O41, operation by operation. -/
theorem alertFlagsFollowTheReports : Obligations.AlertFlagsFollowTheReports := by
  unfold Obligations.AlertFlagsFollowTheReports
  refine ⟨fun u k x => ⟨?rise, fun other => ?risesOther, AlertUnit.rise_of_present, AlertUnit.fall_of_absent, ?fall,
    fun single => ?event⟩, fun u scope x wf => ?acknowledge⟩
  case rise => exact ⟨by simp, fun wf => (u.mem_rise_latched k k wf.1).mpr (.inl rfl)⟩
  case risesOther => exact ⟨by simp [other], u.mem_rise_latched_of_ne other⟩
  case fall => exact ⟨by simp, u.not_mem_fall_present k, u.mem_fall_present k x⟩
  case event =>
    exact ⟨AlertUnit.not_mem_fall_present _ k (AlertUnit.rise_present_nodup k single),
      fun wf => (u.mem_event_latched k k wf.1).mpr (.inl rfl)⟩
  case acknowledge =>
    have kept := AlertUnit.mem_acknowledge_latched u scope x
    exact ⟨rfl, rfl, kept, AlertUnit.mem_acknowledge_notices wf scope x,
      fun present => kept.mpr ⟨wf.1 x present, fun cleared => cleared.2 present⟩⟩

/-! ## Start of a transmission (R31, R38) -/

theorem State.startHeld_idle {s : State} {r : Request} (held : s.link.held = some r) (quiet : s.link.arriving = false)
    (idle : s.link.phase = .idle) : s.startHeld = s.startTransmission r := by
  rw [State.startHeld, held]
  dsimp only
  rw [quiet, idle]
  rfl

theorem State.leaveGuard_held {s : State} {r : Request} {gap n : Nat} (phase : s.link.phase = .guarding gap n)
    (quiet : s.link.arriving = false) (held : s.link.held = some r) : s.leaveGuard = s.startTransmission r := by
  rw [State.leaveGuard, phase]
  dsimp only
  rw [quiet, held]
  rfl

theorem State.leaveGuard_none {s : State} {gap n : Nat} (phase : s.link.phase = .guarding gap n)
    (quiet : s.link.arriving = false) (held : s.link.held = none) : s.leaveGuard = s.setPhase .idle := by
  rw [State.leaveGuard, phase]
  dsimp only
  rw [quiet, held]
  rfl

/-- A CRC is of 16 bits. -/
theorem crcOf_lt (bytes : List Byte) : crcOf bytes < 65536 := BitVec.isLt _

/-- Settles O7: both commands start a held request by `startTransmission`, and the frame ends with its CRC. -/
theorem transmissionStarts : Obligations.TransmissionStarts := by
  unfold Obligations.TransmissionStarts
  refine ⟨fun s r released held quiet => ⟨s.startTransmission r, rfl, fun idle => ?_, fun gap n phase => ?_⟩,
    fun s gap n released held quiet phase => ?_, fun r tag => ⟨twoBytes (crcOf _), rfl, rfl, natOf_twoBytes _ (crcOf_lt _)⟩⟩
  · rw [← State.startHeld_idle held quiet idle]
    exact State.unlessReset_released released _
  · rw [← State.leaveGuard_held phase quiet held]
    exact State.unlessReset_released released _
  · exact (State.unlessReset_released released State.leaveGuard).trans
      (congrArg _ (State.leaveGuard_none phase quiet held))

/-! ## End of a transmission (R31, R60, R67) -/

theorem execEndOfTransmission_sending {s : State} {x : Exchange} (released : s.resetAsserted = false)
    (phase : s.link.phase = .sending x) : exec .endOfTransmission s = .next (s.endTransmission x) := by
  show execEndOfTransmission s = _
  rw [execEndOfTransmission, State.unlessReset_released released, phase]

theorem State.settleCentre_of_none {s : State} (h : s.centre.unsettled = none) : s.settleCentre = s := by
  rw [State.settleCentre, h]

theorem State.markStands_of_judge {s : State} {x : Exchange} (phase : s.link.phase = .sending x)
    (judge : x.request.fate = .judge) : s.markStands = true := by
  rw [State.markStands, phase]
  exact decide_eq_true judge

/-- A MARK that stands opens the interval and lets the next request be chosen. -/
theorem State.endMark_of_stands {s : State} (unsettled : s.centre.unsettled = none) (configured : s.configured = true)
    (stands : s.markStands = true) : s.endMark = (s.setPhase .idle).openAtMark.chooseNext := by
  rw [State.endMark, State.settleCentre_of_none unsettled, configured, stands]
  exact (if_pos (show (s.setPhase .idle).openAtMark.configured = true from configured)).trans (if_neg (by decide))

/-- Settles O8: a MARK's end is its opening and the choice of the next request, which starts nothing and counts
nothing. -/
theorem transmissionEnds : Obligations.TransmissionEnds := by
  unfold Obligations.TransmissionEnds
  refine ⟨fun s x released phase other => ?_, fun s x released phase mark judge configured unsettled => ?_⟩
  · rw [execEndOfTransmission_sending released phase, State.endTransmission, if_neg other]
    rfl
  · have opened : s.endTransmission x = (s.stopDriving.setPhase .idle).openAtMark.chooseNext := by
      rw [State.endTransmission, if_pos mark]
      exact State.endMark_of_stands unsettled configured (State.markStands_of_judge (s := s.stopDriving) phase judge)
    have still : (s.stopDriving.setPhase .idle).openAtMark.centre.unsettled = none := unsettled
    obtain ⟨link, sequencer, -⟩ := State.chooseNext_chose still
    have touches := State.chooseNext_chose_touches still
    rw [← opened] at link sequencer touches
    refine ⟨s.endTransmission x, execEndOfTransmission_sending released phase, ?_, ?_⟩
    · have stepped : Touches [.link, .sequencer, .stations, .composer, .centre] s (s.endTransmission x) := by
        have opening : Touches [.link, .sequencer, .stations, .composer, .centre] s
            (s.stopDriving.setPhase .idle).openAtMark :=
          ((s.stopDriving_touches.mono (by decide)).trans ((State.setPhase_touches _ _).mono (by decide))).trans
            ((State.openAtMark_touches _).mono (by decide))
        exact opening.trans (touches.mono (by decide))
      exact stepped.rebuild
    · have stations : (s.endTransmission x).stations = s.stations.map (fun r => { r with taken := false }) :=
        touches .stations (by decide)
      rw [link, sequencer]
      exact ⟨rfl, rfl, rfl, rfl, rfl, rfl, rfl, rfl, stations⟩

/-! ## Start of a frame (R32, R37) -/

theorem Link.arrivalNow_eq_belongs_iff (l : Link) :
    l.arrivalNow = .belongs ↔ ∃ x, l.phase = .awaiting x ∧ x.expired = false := by
  unfold Link.arrivalNow
  cases phase : l.phase with
  | awaiting x => cases expired : x.expired <;> simp [expired]
  | idle | sending x | guarding gap n => simp

/-- Settles O9: a frame is late or belongs as `Link.arrivalNow` reads the exchange state. -/
theorem frameStartIsSeen : Obligations.FrameStartIsSeen := by
  unfold Obligations.FrameStartIsSeen
  intro s p released
  have runs : exec (.frameStart p) s = .next (s.startFrame p) := State.unlessReset_released released _
  refine ⟨fun deaf => ?_, fun decoded quiet => ⟨s.link.arrivalNow, ?_, s.link.arrivalNow_eq_belongs_iff⟩⟩
  · rw [runs, State.startFrame, deaf]
    rfl
  · rw [runs, State.startFrame, decoded, quiet]
    rfl

/-! ## Frames as they are read (R34, R180) -/

theorem frameSound_iff (codingError : Bool) (bytes : List Byte) :
    frameSound codingError bytes = true ↔ codingError = false ∧ 7 ≤ bytes.length ∧
      crcOf (bytes.take (bytes.length - 2)) = natOf (bytes.drop (bytes.length - 2)) ∧
      byteAt bytes 4 ≤ 60 ∧ byteAt bytes 4 = bytes.length - 7 := by
  simp only [frameSound, Bool.and_eq_true, Bool.not_eq_true', decide_eq_true_eq, and_assoc]
  rfl

theorem echoes_iff (x : ExchangeId) (bytes : List Byte) :
    echoes x bytes = true ↔ byteAt bytes 0 = x.address ∧ byteAt bytes 1 = x.kind.code ∧ byteAt bytes 2 = x.tag := by
  simp [echoes, and_assoc]

section classes
variable {x : ExchangeId} {codingError : Bool} {bytes : List Byte}

theorem classify_of_unsound (h : ¬ frameSound codingError bytes = true) : classify x codingError bytes = .bad :=
  if_pos (by simpa using h)

theorem classify_of_sound (h : frameSound codingError bytes = true) :
    classify x codingError bytes = if echoes x bytes then .valid else .wrong := if_neg (by simpa using h)

/-- A frame that fails is BAD where it is not sound, and WRONG where it is. -/
theorem classify_of_failed (h : ¬ (frameSound codingError bytes = true ∧ echoes x bytes = true)) :
    classify x codingError bytes = if frameSound codingError bytes then .wrong else .bad := by
  by_cases sound : frameSound codingError bytes = true
  · rw [classify_of_sound sound, if_pos sound, if_neg fun echoed => h ⟨sound, echoed⟩]
  · rw [classify_of_unsound sound, if_neg sound]

end classes

/-- The copy of a path whose first frame fails. -/
def Copy.failed (sound : Bool) : Copy := if sound then .wrong else .bad

/-- A frame that belongs to the exchange, with the check path not awaited and no VALID copy on its path. -/
theorem State.endFrame_belonging {s : State} {x : Exchange} {p : Path} (phase : s.link.phase = .awaiting x)
    (decoded : x.decodes p = true) (belongs : s.link.receiving.get p = some .belongs) (e : Bool) (b : List Byte)
    (o : ChoiceOrder) : s.endFrame p e b o = (s.setReceiving p none).endBelonging x p e b o := by
  have hears : s.link.decodes p = true := by
    rw [Link.decodes, phase]
    exact decoded
  rw [State.endFrame, belongs]
  dsimp only
  rw [hears, phase]
  rfl

/-- The first frame that fails is the copy of its path, and the exchange goes on. -/
theorem Exchange.afterFrame_failed {x : Exchange} {p : Path} (open_ : x.waitingCheck = false)
    (running : x.expired = false) (silent : x.copies.get p = .silent) (sound : Bool) (b : List Byte) (others : Bool) :
    x.afterFrame p (if sound then .wrong else .bad) b others =
      ({ x with copies := x.copies.set p (.failed sound) }, false) := by
  rw [Exchange.afterFrame, open_, running, silent]
  cases sound <;> simp [Copy.after, Copy.failed]

/-- Settles O10: a frame that fails is BAD or WRONG by its soundness, and neither ends the exchange. -/
theorem failedFrameIsTheCopy : Obligations.FailedFrameIsTheCopy := by
  unfold Obligations.FailedFrameIsTheCopy
  intro s x p err bytes o released phase decoded open_ running belongs silent
  dsimp only
  rw [← frameSound_iff]
  intro failed
  have fails : ¬ (frameSound err bytes = true ∧ echoes x.ident bytes = true) := fun ⟨sound, echoed⟩ =>
    failed ⟨sound, (echoes_iff x.ident bytes).mp echoed⟩
  refine ⟨.failed (frameSound err bytes), ?_, ?_, ?_⟩
  · cases frameSound err bytes <;> simp [Copy.failed]
  · cases frameSound err bytes <;> simp [Copy.failed]
  · have single : x.duplicates p (if frameSound err bytes then .wrong else .bad) = false := by
      cases frameSound err bytes <;> rfl
    refine (State.unlessReset_released released _).trans (congrArg _ ?_)
    rw [State.endFrame_belonging phase decoded belongs, State.endBelonging, classify_of_failed fails, single, Exchange.afterFrame_failed open_ running silent]
    rfl

/-! ## A late frame (R37, R48, R50 to R52) -/

/-- An event latches its entry, leaves it not present, and keeps every latch (R173). -/
theorem AlertUnit.event_latches {u : AlertUnit} (wf : u.Wf) (k : AlertKey) :
    k ∈ (u.event k).latched ∧ k ∉ (u.event k).present ∧ ∀ x ∈ u.latched, x ∈ (u.event k).latched :=
  ⟨(u.mem_event_latched k k wf.1).mpr (.inl rfl), u.not_mem_event_present k wf,
    fun x h => (u.mem_event_latched k x wf.1).mpr (.inr h)⟩

theorem Counters.stray_eq (c : Counters) :
    c.stray = if c.exchanges < 65535 then { c with strays := min 65535 (c.strays + 1) } else c := by
  unfold Counters.stray Counters.full
  by_cases h : c.exchanges < 65535
  · rw [if_pos h, if_neg (by simpa using h)]
  · rw [if_neg h, if_pos (by simpa using h)]

theorem State.endLate_idle {s : State} {x : ExchangeId} (idle : s.link.phase = .idle)
    (last : s.link.lastExchange = some x) (p : Path) (e : Bool) (b : List Byte) :
    s.endLate p e b = s.noteStray .late (some x) p (classify x e b).result := by
  unfold State.endLate
  dsimp only
  rw [last]
  split
  next gap n phase => exact absurd (idle.symm.trans phase) nofun
  all_goals rfl

/-- Settles O11: the frame's end is its stray, which writes the record and reports the event. -/
theorem lateFrameIsAStray : Obligations.LateFrameIsAStray := by
  unfold Obligations.LateFrameIsAStray
  intro s x p err bytes o released idle decoded late last wf
  have ends : s.endFrame p err bytes o =
      (s.setReceiving p none).noteStray .late (some x) p (classify x err bytes).result := by
    rw [State.endFrame, late]
    dsimp only
    rw [decoded]
    exact State.endLate_idle (s := s.setReceiving p none) idle last p err bytes
  obtain ⟨latched, absent, kept⟩ := AlertUnit.event_latches wf linkExceptionKey
  refine ⟨_, (State.unlessReset_released released _).trans (congrArg _ ends), ?_, ?_, latched,
    (List.contains_eq_mem ..).trans (decide_eq_false absent), kept⟩
  · exact (((s.setReceiving_touches p none).mono (by decide)).trans (State.noteStray_touches _ _ _ _ _)).rebuild
  · rw [← Counters.stray_eq]
    rfl

/-! ## Frames of a reply (R180) -/

/-- A reply frame as R180 lays it out. -/
def replyFrame (address kind tag status : Byte) (payload : List Byte) : List Byte :=
  [address, kind, tag, status, byteOf payload.length] ++ payload ++
    twoBytes (crcOf ([address, kind, tag, status, byteOf payload.length] ++ payload))

section replies
variable (address kind tag status : Byte) {payload : List Byte}

theorem replyFrame_length : (replyFrame address kind tag status payload).length = payload.length + 7 := by
  simp [replyFrame, twoBytes]

theorem replyFrame_sound (short : payload.length ≤ 60) :
    frameSound false (replyFrame address kind tag status payload) = true := by
  have body : (replyFrame address kind tag status payload).length - 2 =
      ([address, kind, tag, status, byteOf payload.length] ++ payload).length := by
    rw [replyFrame_length]
    simp
  have field : byteAt (replyFrame address kind tag status payload) 4 = payload.length :=
    Nat.mod_eq_of_lt (by omega)
  rw [frameSound_iff, body, field, replyFrame_length]
  refine ⟨rfl, by omega, ?_, short, by omega⟩
  rw [replyFrame, List.take_left, List.drop_left, natOf_twoBytes _ (crcOf_lt _)]

theorem replyOf_replyFrame : replyOf (replyFrame address kind tag status payload) = { status, payload } := by
  have handed : (payload ++ twoBytes (crcOf ([address, kind, tag, status, byteOf payload.length] ++ payload))).take
      payload.length = payload := List.take_left
  unfold replyOf
  rw [replyFrame_length]
  exact congrArg (Reply.mk status) handed

end replies

/-- Settles O17: the frame is sound, so its echoes alone decide between VALID and WRONG. -/
theorem replyFramesAreRead : Obligations.ReplyFramesAreRead := by
  unfold Obligations.ReplyFramesAreRead
  intro x address kind tag status payload short
  have sound := replyFrame_sound address kind tag status short
  have echoed := echoes_iff x (replyFrame address kind tag status payload)
  refine ⟨fun same => ⟨?_, replyOf_replyFrame address kind tag status⟩, fun other => ?_, classify_of_unsound nofun⟩
  · exact (classify_of_sound sound).trans (if_pos (echoed.mpr same))
  · exact (classify_of_sound sound).trans (if_neg fun e => other (echoed.mp e))

end Sys2Proof.Machine
end

section
/-! SUPPORT. The Link Controller's accounts at an exchange end (R40 to R43, R48, R50 to R52), and the two ways a centre
exchange of the built-in cycle ends (R33, R64). -/

namespace Sys2Proof.Machine

/-! ## Path counts and PATH_DOWN (R40, R42) -/

/-- A path settled leaves all of the link alone but the two items of paths. -/
theorem Link.settlePath_frame (x : Exchange) (p : Path) (l : Link) :
    l.settlePath x p = { l with nonValid := (l.settlePath x p).nonValid, down := (l.settlePath x p).down } := by
  unfold Link.settlePath
  split
  · split <;> rfl
  · rfl

theorem Link.settlePath_other (x : Exchange) (p : Path) (l : Link) :
    (l.settlePath x p).nonValid.get (otherPath p) = l.nonValid.get (otherPath p) ∧
      (l.settlePath x p).down.get (otherPath p) = l.down.get (otherPath p) := by
  unfold Link.settlePath
  split
  · split <;> simp
  · exact ⟨rfl, rfl⟩

theorem Link.settlePath_self {x : Exchange} {p : Path} {l : Link} (settles : l.settles x p = true) :
    ((l.settlePath x p).nonValid.get p =
      if (x.copies.get p).isValid then 0 else min 16 (l.nonValid.get p + 1)) ∧
    (l.settlePath x p).down.get p =
      if (x.copies.get p).isValid then false else l.down.get p || decide (15 ≤ l.nonValid.get p) := by
  have full : decide (min Config.pathRun (l.nonValid.get p + 1) = Config.pathRun) = decide (15 ≤ l.nonValid.get p) := by
    unfold Config.pathRun
    exact decide_eq_decide.mpr ⟨fun h => by omega, fun h => by omega⟩
  unfold Link.settlePath
  rw [if_pos settles]
  split
  · simp
  · simp only [PerPath.get_set_same, full, true_and]

theorem Link.settles_of_dual {l : Link} {x : Exchange} (dual : x.mode = .dual) (mode : l.pathMode = .dual) (p : Path) :
    l.settles x p = true := by
  rw [Link.settles, x.decodes_of_dual dual, mode]
  rfl

/-- Both paths settled (R40, R42). -/
def Link.settleBoth (x : Exchange) (l : Link) : Link := (l.settlePath x .one).settlePath x .two

theorem Link.settleBoth_frame (x : Exchange) (l : Link) :
    l.settleBoth x = { l with nonValid := (l.settleBoth x).nonValid, down := (l.settleBoth x).down } := by
  unfold Link.settleBoth
  rw [Link.settlePath_frame x .two, Link.settlePath_frame x .one]

theorem Link.settleBoth_spec {x : Exchange} {l : Link} (dual : x.mode = .dual) (mode : l.pathMode = .dual) (p : Path) :
    ((l.settleBoth x).nonValid.get p =
      if (x.copies.get p).isValid then 0 else min 16 (l.nonValid.get p + 1)) ∧
    (l.settleBoth x).down.get p =
      if (x.copies.get p).isValid then false else l.down.get p || decide (15 ≤ l.nonValid.get p) := by
  have first := Link.settlePath_self (l.settles_of_dual dual mode .one)
  have mode' : (l.settlePath x .one).pathMode = .dual := by
    rw [Link.settlePath_frame]
    exact mode
  have second := Link.settlePath_self (Link.settles_of_dual dual mode' .two)
  unfold Link.settleBoth
  cases p with
  | one =>
    obtain ⟨count, down⟩ := (l.settlePath x .one).settlePath_other x .two
    exact ⟨count.trans first.1, down.trans first.2⟩
  | two =>
    obtain ⟨count, down⟩ := l.settlePath_other x .one
    rw [show (l.settlePath x .one).nonValid.get .two = l.nonValid.get .two from count,
      show (l.settlePath x .one).down.get .two = l.down.get .two from down] at second
    exact second

/-! ## CPD and the switch (R41, R43) -/

theorem outcomeOf_eq_rescued_iff (r c : CopyResult) : outcomeOf r c = .rescued ↔ r ≠ .valid ∧ c = .valid := by
  cases r <;> cases c <;> decide

/-- In DUAL an exchange is RESCUED by a VALID check copy beside a failed receive copy. -/
theorem Exchange.rescued_of_dual {x : Exchange} (dual : x.mode = .dual) : decide (x.outcome = .rescued) =
    (!(x.copies.get x.receive).isValid && (x.copies.get (otherPath x.receive)).isValid) := by
  rw [Exchange.outcome, Exchange.result_of_decoded (x.decodes_of_dual dual _),
    Exchange.result_of_decoded (x.decodes_of_dual dual _), Bool.eq_iff_iff, decide_eq_true_eq, outcomeOf_eq_rescued_iff]
  simp [Copy.result_eq_valid_iff_isValid]

/-- What settling an exchange that the check path has witnessed leaves in the link. -/
theorem State.settlePaths_link_of_witnessed {s : State} {x : Exchange} (witnessed : s.link.witnessed x = true) :
    (s.settlePaths x).link = if (s.link.settleBoth x).switches x (s.link.cpdAfter x) then
        { s.link.settleBoth x with receivePath := otherPath x.receive, cpd := true, checkRun := 0 }
      else { s.link.settleBoth x with cpd := s.link.cpdAfter x, checkRun := s.link.checkRunAfter x } := by
  unfold State.settlePaths
  dsimp only
  rw [if_pos witnessed]
  unfold Link.settleBoth
  split
  · rw [State.reportChange_link, State.reportAll_link, State.reportChange_link]
  · rw [State.reportAll_link, State.reportChange_link]

theorem State.settlePaths_link_of_unwitnessed {s : State} {x : Exchange} (unwitnessed : ¬ s.link.witnessed x = true) :
    (s.settlePaths x).link = s.link.settleBoth x := by
  unfold State.settlePaths
  dsimp only
  rw [if_neg unwitnessed, State.reportAll_link]
  rfl

/-- Settles O16: both paths are settled, then CPD, then the switch by what they have become. -/
theorem pathStateSettles : Obligations.PathStateSettles := by
  unfold Obligations.PathStateSettles
  intro s x dual mode _ _
  have witnessed : s.link.witnessed x = true := by
    rw [Link.witnessed, dual, mode]
    rfl
  have settled := Link.settleBoth_spec dual mode
  have frame := s.link.settleBoth_frame x
  have switched := State.settlePaths_link_of_witnessed witnessed
  have counts : (s.settlePaths x).link.nonValid = (s.link.settleBoth x).nonValid := by
    rw [switched]
    split <;> rfl
  have down : (s.settlePaths x).link.down = (s.link.settleBoth x).down := by
    rw [switched]
    split <;> rfl
  have rescue := Exchange.rescued_of_dual dual
  dsimp only
  rw [counts, down]
  refine ⟨(s.settlePaths_touches x).rebuild, fun p => (settled p).1, fun p => (settled p).2, ?_⟩
  rw [← rescue]
  show (s.settlePaths x).link.receivePath = (if (s.link.settleBoth x).switches x (s.link.cpdAfter x) then _ else _) ∧
    (s.settlePaths x).link.cpd = ((s.link.settleBoth x).switches x (s.link.cpdAfter x) || s.link.cpdAfter x) ∧
    (s.settlePaths x).link.checkRun = (if (s.link.settleBoth x).switches x (s.link.cpdAfter x) then 0 else
      s.link.checkRunAfter x) ∧ _
  rw [switched]
  split
  next switch =>
    rw [switch, frame]
    exact ⟨rfl, rfl, rfl, rfl, rfl, rfl⟩
  next stay =>
    rw [Bool.eq_false_iff.mpr stay, frame]
    exact ⟨rfl, rfl, rfl, rfl, rfl, rfl⟩

/-! ## The accounts at an exchange end (R40 to R43, R48, R50) -/

theorem State.settlePaths_link (x : Exchange) (s : State) : ∃ receivePath cpd checkRun nonValid down,
    (s.settlePaths x).link = { s.link with
      receivePath := receivePath, cpd := cpd, checkRun := checkRun, nonValid := nonValid, down := down } := by
  have frame := s.link.settleBoth_frame x
  by_cases witnessed : s.link.witnessed x = true
  · rw [State.settlePaths_link_of_witnessed witnessed, frame]
    split
    · exact ⟨_, _, _, _, _, rfl⟩
    · exact ⟨_, _, _, _, _, rfl⟩
  · rw [State.settlePaths_link_of_unwitnessed witnessed, frame]
    exact ⟨_, _, _, _, _, rfl⟩

theorem State.settlePaths_alertsWf {s : State} (x : Exchange) (wf : s.alerts.Wf) : (s.settlePaths x).alerts.Wf := by
  unfold State.settlePaths
  dsimp only
  split
  · split
    · refine State.reportChange_wf (State.reportAll_wf (State.reportChange_wf ?_ _ _ _) _ _) _ _ _
      exact wf
    · refine State.reportAll_wf (State.reportChange_wf ?_ _ _ _) _ _
      exact wf
  · refine State.reportAll_wf ?_ _ _
    exact wf

theorem State.settleCounters_link (x : Exchange) (s : State) :
    (s.settleCounters x).link = { s.link with counters := s.link.counters.settle x } :=
  State.reportChange_link ..

/-- The paths and the counters settled, before a link exception is noted. -/
def State.settleLink (x : Exchange) (s : State) : State := (s.settlePaths x).settleCounters x

theorem State.settleLink_touches (x : Exchange) (s : State) : Touches [.link, .alerts] s (s.settleLink x) :=
  (s.settlePaths_touches x).trans (State.settleCounters_touches _ x)

theorem State.settleLink_link (x : Exchange) (s : State) : ∃ receivePath cpd checkRun nonValid down,
    (s.settleLink x).link = { s.link with
      receivePath := receivePath, cpd := cpd, checkRun := checkRun, nonValid := nonValid, down := down,
      counters := s.link.counters.settle x } := by
  obtain ⟨r, c, n, v, d, e⟩ := s.settlePaths_link x
  rw [State.settleLink, State.settleCounters_link, e]
  exact ⟨r, c, n, v, d, rfl⟩

theorem State.settleLink_alertsWf {s : State} (x : Exchange) (wf : s.alerts.Wf) : (s.settleLink x).alerts.Wf := by
  unfold State.settleLink State.settleCounters
  refine State.reportChange_wf ?_ _ _ _
  exact State.settlePaths_alertsWf x wf

/-- The counters of an exchange end below their top (R48). -/
theorem Counters.settle_of_lt {c : Counters} (x : Exchange) (below : c.exchanges < 65535) : c.settle x = { c with
    exchanges := c.exchanges + 1
    errors := c.errors + oneIf (decide (x.outcome = .timeout ∨ x.outcome = .error))
    pathErrors := { one := c.pathErrors.one + oneIf (x.charges .one)
                    two := c.pathErrors.two + oneIf (x.charges .two) } } :=
  if_neg (by simpa [Counters.full] using below)

theorem Counters.settle_good {c : Counters} {x : Exchange} (below : c.exchanges < 65535) (good : x.outcome = .good) :
    (c.settle x).exchanges = c.exchanges + 1 ∧ (c.settle x).errors = c.errors ∧ (c.settle x).strays = c.strays := by
  rw [Counters.settle_of_lt x below, good]
  exact ⟨rfl, rfl, rfl⟩

theorem Counters.settle_timeout {c : Counters} {x : Exchange} (below : c.exchanges < 65535)
    (timeout : x.outcome = .timeout) (charges : ∀ p, x.charges p = false) :
    (c.settle x).exchanges = c.exchanges + 1 ∧ (c.settle x).errors = c.errors + 1 ∧
      (c.settle x).pathErrors = c.pathErrors := by
  rw [Counters.settle_of_lt x below, timeout, charges, charges]
  exact ⟨rfl, rfl, rfl⟩

/-- The counters freeze together (R48). -/
theorem Counters.settle_of_full {c : Counters} (x : Exchange) (full : c.exchanges = 65535) : c.settle x = c :=
  if_pos (by simp [Counters.full, full])

/-! ## The end of a centre exchange of the built-in cycle (R33, R64) -/

/-- The end of a centre exchange as Centre Exchange is handed it. -/
def Exchange.centreEnd (x : Exchange) : CentreEnd :=
  match x.taken with
  | some r => .received r.payload
  | none => .failed

/-- A centre exchange concluded in UNCONFIGURED, after the accounts have left the state `u`. -/
theorem State.concludeExchange_builtIn {s u : State} {x : Exchange} (o : ChoiceOrder) (unconfigured : s.mode = .unconfigured)
    (kind : x.request.kind = .cxe) (accounts : ((s.settlePaths x).settleCounters x).noteOutcome x = u)
    (touches : Touches [.link, .alerts] s u) : s.concludeExchange o x = { s with
      link := { u.link with phase := u.phaseAfter x }
      alerts := u.alerts
      centre := { s.centre with unsettled := some x.centreEnd }
      sequencer := { s.sequencer with idleWait := some 50 } } := by
  have rebuilt : u = { s with link := u.link, alerts := u.alerts } := touches.rebuild
  have asleep : ((u.setPhase (u.phaseAfter x)).handOutcome x).configured = false := by
    rw [State.configured, State.handOutcome, kind, decide_eq_false_iff_not, not_not, rebuilt]
    exact unconfigured
  rw [State.concludeExchange, accounts]
  dsimp only
  rw [State.exchangeEnded, asleep, State.handOutcome, kind, rebuilt]
  rfl

/-- The end of an exchange with no centre exchange end before it to settle. -/
theorem State.endExchange_awaiting {s : State} {x : Exchange} (o : ChoiceOrder) (unsettled : s.centre.unsettled = none) :
    (s.setPhase (.awaiting x)).endExchange o = (s.setPhase (.awaiting x)).concludeExchange o x := by
  have settled : (s.setPhase (.awaiting x)).settleCentre = s.setPhase (.awaiting x) :=
    State.settleCentre_of_none unsettled
  rw [State.endExchange, settled]
  rfl

/-! ### With a reply (R33, R35) -/

/-- The exchange once its receive path has a VALID copy with no frame awaited on the other. -/
def Exchange.answered (bytes : List Byte) (x : Exchange) : Exchange :=
  { x with copies := x.copies.set x.receive (.valid (replyOf bytes)), waitingCheck := false }

theorem Exchange.answered_copy (bytes : List Byte) (x : Exchange) :
    (x.answered bytes).copies.get (x.answered bytes).receive = .valid (replyOf bytes) :=
  PerPath.get_set_same ..

theorem Exchange.answered_outcome (bytes : List Byte) (x : Exchange) : (x.answered bytes).outcome = .good := by
  refine Exchange.outcome_good ?_
  rw [Exchange.result_of_decoded (Exchange.decodes_receive _), x.answered_copy]
  rfl

theorem Exchange.answered_taken (bytes : List Byte) (x : Exchange) :
    (x.answered bytes).taken = some (replyOf bytes) := by
  rw [Exchange.taken_of_good (x.answered_outcome bytes), x.answered_copy]
  rfl

theorem Copy.after_valid {c : Copy} (bytes : List Byte) (h : c.isValid = false) :
    c.after .valid bytes = .valid (replyOf bytes) := by
  cases c with
  | valid r => cases h
  | silent | bad | wrong => rfl

theorem Exchange.afterFrame_answered {x : Exchange} (open_ : x.waitingCheck = false)
    (fresh : (x.copies.get x.receive).isValid = false) (bytes : List Byte) :
    x.afterFrame x.receive .valid bytes false = (x.answered bytes, true) := by
  rw [Exchange.afterFrame, open_, Copy.after_valid bytes fresh, fresh]
  simp [Exchange.answered]

/-- Settles O12: the frame answers the exchange, whose accounts find neither an error nor an exception. -/
theorem goodReplyEndsTheExchange : Obligations.GoodReplyEndsTheExchange := by
  unfold Obligations.GoodReplyEndsTheExchange
  intro s x bytes o released unconfigured phase kind open_ fresh belongs quiet unsettled valid
  have single : x.duplicates x.receive .valid = false := by rw [Exchange.duplicates, fresh]; rfl
  have alone : (s.setReceiving x.receive none).belongingOn x (otherPath x.receive) = false := by
    have other : (s.setReceiving x.receive none).link.receiving.get (otherPath x.receive) = none :=
      (PerPath.get_set_other ..).trans quiet
    rw [State.belongingOn, other]
    exact Bool.and_false _
  have ends : s.endFrame x.receive false bytes o =
      ((s.setReceiving x.receive none).setPhase (.awaiting (x.answered bytes))).concludeExchange o (x.answered bytes) := by
    rw [State.endFrame_belonging phase x.decodes_receive belongs, State.endBelonging, valid, single, alone,
      Exchange.afterFrame_answered open_ fresh]
    exact State.endExchange_awaiting o unsettled
  have good := x.answered_outcome bytes
  have noted : (((((s.setReceiving x.receive none).setPhase (.awaiting (x.answered bytes))).settlePaths
      (x.answered bytes)).settleCounters (x.answered bytes)).noteOutcome (x.answered bytes)) =
      ((s.setReceiving x.receive none).setPhase (.awaiting (x.answered bytes))).settleLink (x.answered bytes) :=
    if_neg (by simp [good])
  have concluded := State.concludeExchange_builtIn (s := (s.setReceiving x.receive none).setPhase (.awaiting (x.answered bytes)))
    (x := x.answered bytes) o unconfigured kind noted (State.settleLink_touches _ _)
  obtain ⟨_, _, _, _, _, link⟩ := State.settleLink_link (x.answered bytes)
    ((s.setReceiving x.receive none).setPhase (.awaiting (x.answered bytes)))
  have idle : ∀ u : State, u.phaseAfter (x.answered bytes) = .idle := fun u => if_neg (by simp [good])
  have received : (x.answered bytes).centreEnd = .received ((bytes.drop 5).take (bytes.length - 7)) := by
    rw [Exchange.centreEnd, x.answered_taken bytes]
    rfl
  rw [link, idle, received] at concluded
  refine ⟨_, (State.unlessReset_released released _).trans (congrArg _ (ends.trans concluded)), rfl, rfl, rfl, rfl, rfl,
    PerPath.get_set_same .., rfl, fun below => ?_⟩
  exact Counters.settle_good below good

/-! ### Without one (R33, R38, R51) -/

theorem Exchange.result_silent {x : Exchange} (copies : x.copies = { one := .silent, two := .silent }) (p : Path) :
    x.result p = if x.decodes p then .silent else .absent := by
  unfold Exchange.result
  rw [copies]
  cases p <;> rfl

/-- An exchange with both paths silent is a TIMEOUT and charges neither path. -/
theorem Exchange.silent_outcome {x : Exchange} (copies : x.copies = { one := .silent, two := .silent }) :
    x.outcome = .timeout := by
  rw [Exchange.outcome, Exchange.result_silent copies, Exchange.result_silent copies, x.decodes_receive]
  refine outcomeOf_timeout ?_
  split
  · exact .inl rfl
  · exact .inr rfl

theorem Exchange.silent_charges {x : Exchange} (copies : x.copies = { one := .silent, two := .silent }) (p : Path) :
    x.charges p = false := by
  rw [Exchange.charges, Exchange.result_silent copies, Exchange.result_silent copies]
  split
  next h => cases decoded : x.decodes p <;> rw [decoded] at h <;> cases h
  next h => cases decoded : x.decodes p <;> rw [decoded] at h <;> cases h
  · cases x.decodes (otherPath p) <;> rfl
  · rfl

/-- What the capture record shows of a silent centre exchange (R51). -/
theorem Exchange.silent_capture {x : Exchange} (copies : x.copies = { one := .silent, two := .silent })
    (kind : x.request.kind = .cxe) : x.capture =
      { outcome := .timeout
        exchange := some { kind := .cxe, address := x.request.address, tag := x.tag, slot := x.request.slot }
        results := { one := if x.decodes .one then .silent else .absent
                     two := if x.decodes .two then .silent else .absent } } := by
  rw [Exchange.capture, Exchange.silent_outcome copies, Exchange.result_silent copies, Exchange.result_silent copies,
    Exchange.ident, kind]
  rfl

/-- The exchange once its reply timeout has expired. -/
def Exchange.ranOut (x : Exchange) : Exchange := { x with remaining := 0, expired := true }

/-- Settles O13: the expiry ends the silent exchange, whose accounts count the error and note the exception. -/
theorem silentTimeoutEndsTheExchange : Obligations.SilentTimeoutEndsTheExchange := by
  unfold Obligations.SilentTimeoutEndsTheExchange
  intro s x o released unconfigured phase kind running copies quiet unsettled wf
  have expires : s.expireReply o = (s.setPhase (.awaiting x.ranOut)).concludeExchange o x.ranOut := by
    have alone : ∀ p, s.belongingOn x p = false := by
      intro p
      rw [State.belongingOn, quiet]
      cases p <;> exact Bool.and_false _
    rw [State.expireReply, phase]
    dsimp only
    rw [running, alone, alone]
    exact State.endExchange_awaiting o unsettled
  have timeout : x.ranOut.outcome = .timeout := Exchange.silent_outcome copies
  have noted : (((s.setPhase (.awaiting x.ranOut)).settlePaths x.ranOut).settleCounters x.ranOut).noteOutcome x.ranOut =
      ((s.setPhase (.awaiting x.ranOut)).settleLink x.ranOut).noteException x.ranOut.capture := if_pos (.inl timeout)
  have concluded := State.concludeExchange_builtIn (s := s.setPhase (.awaiting x.ranOut)) (x := x.ranOut) o unconfigured
    kind noted ((State.settleLink_touches _ _).trans (State.noteException_touches _ _))
  obtain ⟨_, _, _, _, _, link⟩ := State.settleLink_link x.ranOut (s.setPhase (.awaiting x.ranOut))
  have par : State.par (((s.setPhase (.awaiting x.ranOut)).settleLink x.ranOut).noteException x.ranOut.capture) = s.par :=
    congrArg Tables.par (((State.settleLink_touches _ _).trans (State.noteException_touches _ _)) .tables (by decide))
  have latched := AlertUnit.event_latches (State.settleLink_alertsWf (s := s.setPhase (.awaiting x.ranOut)) x.ranOut wf)
    linkExceptionKey
  refine ⟨_, (State.unlessReset_released released _).trans (congrArg _ (expires.trans concluded)), rfl, ?_, rfl, ?_, ?_,
    ?_, ?_, latched.1⟩
  · rw [Exchange.centreEnd, Exchange.taken_of_timeout timeout]
    rfl
  · show State.phaseAfter _ _ = _
    rw [State.phaseAfter, par, timeout]
    simp only [true_and]
  · intro below
    show (State.settleLink _ _).link.counters.exchanges = _ ∧ (State.settleLink _ _).link.counters.errors = _ ∧
      (State.settleLink _ _).link.counters.pathErrors = _
    rw [link]
    exact Counters.settle_timeout below timeout (Exchange.silent_charges copies)
  · intro full
    show (State.settleLink _ _).link.counters = _
    rw [link]
    exact Counters.settle_of_full x.ranOut full
  · show (if (State.settleLink _ _).link.frozen then (State.settleLink _ _).link.capture else some x.ranOut.capture) = _
    rw [link, Exchange.silent_capture (x := x.ranOut) copies kind]
    rfl

end Sys2Proof.Machine
end

section
/-! SUPPORT. The Cycle Sequencer's timers and walk (R54 to R64), and what an interval close does block by block (R26,
R61, R78, R80, R82, R162). -/

namespace Sys2Proof.Machine

/-! ## The built-in cycle (R64) -/

/-- Settles O18: the expiry chooses a centre request without a slot, built at once for want of an end to settle. -/
theorem idleWaitSendsACentreRequest : Obligations.IdleWaitSendsACentreRequest := by
  unfold Obligations.IdleWaitSendsACentreRequest
  intro s released running unsettled
  have chosen : s.expireIdleWait = State.buildCentre none
      { s with sequencer := { s.sequencer with idleWait := none, building := some none } } := by
    rw [State.expireIdleWait, if_pos running]
    exact congrArg (State.buildCentre none) (State.settleCentre_of_none
      (s := { s with sequencer := { s.sequencer with idleWait := none, building := some none } }) unsettled)
  exact ⟨_, _, (State.unlessReset_released released _).trans (congrArg _ chosen), rfl, rfl, rfl, rfl, rfl, rfl, ⟨_, rfl⟩,
    _, rfl, rfl⟩

/-! ## Walks (R54 to R58) -/

/-- A slot that yields a request leaves the cycle position alone. -/
theorem State.takeSlot_reaches {s t : State} {i : Nat} {slot : Slot} (h : s.takeSlot i slot = some t) :
    (t.link.held.isSome = true ∨ t.sequencer.building.isSome = true) ∧
      t.sequencer.position = s.sequencer.position := by
  cases slot with
  | station n =>
    simp only [State.takeSlot] at h
    split at h
    · cases h
      exact ⟨.inl rfl, rfl⟩
    · cases h
  | spare =>
    simp only [State.takeSlot] at h
    split at h
    · obtain ⟨n, -, rfl⟩ := Option.map_eq_some_iff.mp h
      exact ⟨.inl rfl, rfl⟩
    · cases h
  | centre =>
    cases h
    exact ⟨.inr rfl, rfl⟩
  | command =>
    cases h
    unfold State.takeCommand
    split
    · split
      · exact ⟨.inl rfl, rfl⟩
      · exact ⟨.inl rfl, rfl⟩
    · exact ⟨.inl rfl, rfl⟩

/-- A CENTRE or COMMAND slot always yields a request. -/
theorem State.takeSlot_yields (s : State) (i : Nat) {slot : Slot} (h : slot = .centre ∨ slot = .command) :
    ∃ t, s.takeSlot i slot = some t := by
  obtain rfl | rfl := h
  · exact ⟨_, rfl⟩
  · exact ⟨_, rfl⟩

/-- How many slots a walk takes from position p to reach slot i of a table of n. -/
def slotsTo (n i p : Nat) : Nat := if p ≤ i then i - p else n - p + i

theorem State.positionAfter_lt {s : State} (some_slot : 0 < s.tables.cycle.length) (p : Nat) :
    s.positionAfter p < s.tables.cycle.length := by
  unfold State.positionAfter
  split <;> omega

theorem State.slotsTo_positionAfter {s : State} {i p : Nat} (hi : i < s.tables.cycle.length)
    (hp : p < s.tables.cycle.length) (other : p ≠ i) :
    slotsTo s.tables.cycle.length i (s.positionAfter p) + 1 = slotsTo s.tables.cycle.length i p := by
  unfold slotsTo State.positionAfter
  split <;> split <;> split <;> omega

/-- One slot of a walk. -/
theorem State.walkFrom_succ (fuel : Nat) (s : State) : State.walkFrom (fuel + 1) s =
    (((s.tables.cycle.getD s.sequencer.position none).bind fun slot => State.takeSlot s.sequencer.position slot
      { s with sequencer := { s.sequencer with position := s.positionAfter s.sequencer.position } }).getD
      (State.walkFrom fuel
        { s with sequencer := { s.sequencer with position := s.positionAfter s.sequencer.position } })) := by
  rw [State.walkFrom]
  dsimp only
  split
  next t taken => rw [taken]; rfl
  next none => rw [none]; rfl

/-- A walk with enough slots before it reaches the slot i that always yields, or a request before it. -/
theorem State.walkFrom_reaches {i : Nat} {slot : Slot} (yields : slot = .centre ∨ slot = .command) :
    ∀ (fuel : Nat) (s : State), s.tables.cycle[i]? = some (some slot) → s.sequencer.position < s.tables.cycle.length →
      slotsTo s.tables.cycle.length i s.sequencer.position < fuel →
      ((State.walkFrom fuel s).link.held.isSome = true ∨ (State.walkFrom fuel s).sequencer.building.isSome = true) ∧
        (State.walkFrom fuel s).sequencer.position < s.tables.cycle.length := by
  intro fuel
  induction fuel with
  | zero => exact fun _ _ _ h => absurd h (Nat.not_lt_zero _)
  | succ fuel ih =>
    intro s at_i position near
    have hi : i < s.tables.cycle.length := (List.getElem?_eq_some_iff.mp at_i).1
    have next := State.positionAfter_lt (s := s) (by omega) s.sequencer.position
    rw [State.walkFrom_succ]
    cases taken : (s.tables.cycle.getD s.sequencer.position none).bind fun slot => State.takeSlot s.sequencer.position slot
        { s with sequencer := { s.sequencer with position := s.positionAfter s.sequencer.position } } with
    | some t =>
      obtain ⟨x, -, took⟩ := Option.bind_eq_some_iff.mp taken
      obtain ⟨reached, same⟩ := State.takeSlot_reaches took
      exact ⟨reached, same.symm ▸ next⟩
    | none =>
      have other : s.sequencer.position ≠ i := by
        intro here
        obtain ⟨t, took⟩ := State.takeSlot_yields
          { s with sequencer := { s.sequencer with position := s.positionAfter s.sequencer.position } }
          s.sequencer.position yields
        rw [here] at taken took
        rw [List.getD_eq_getElem?_getD, at_i] at taken
        exact absurd (took.symm.trans taken) nofun
      have step := State.slotsTo_positionAfter hi position other
      exact ih _ at_i next (by
        show slotsTo s.tables.cycle.length i (s.positionAfter s.sequencer.position) < fuel
        omega)

/-- Settles O21: from any position the slot lies less than one pass of the table ahead. -/
theorem walkReachesARequest : Obligations.WalkReachesARequest := by
  unfold Obligations.WalkReachesARequest
  rintro s position ⟨i, hi, yields⟩
  have near : slotsTo s.tables.cycle.length i s.sequencer.position < s.tables.cycle.length + 1 := by
    unfold slotsTo
    split <;> omega
  obtain centre | command := yields
  · exact State.walkFrom_reaches (.inl rfl) _ s centre position near
  · exact State.walkFrom_reaches (.inr rfl) _ s command position near

/-! ## An interval close block by block (R61) -/

/-- The station holds STATION_LOST (R80). -/
def State.stationLost (s : State) (n : Nat) : Bool := (s.stationRec n).lost (s.tables.station n)

/-- The stations of the segment closed (R78). -/
def State.closeStations (s : State) : State :=
  { s with stations := s.stations.mapIdx fun n r =>
      if n < s.stationCount then r.close n s.sequencer.interval (s.tables.station n) else r }

/-- The changes of STATION_LOST of a close reported (R80). -/
def State.reportLosses (s : State) : State :=
  (List.range s.stationCount).foldl
    (fun t n => t.reportChange (alertKey .stationLost n) (s.stationLost n) (s.closeStations.stationLost n)) s.closeStations

/-- A band evaluation asked for (R78). -/
def State.askEvaluation (s : State) : State := { s with evaluationsAsked := s.evaluationsAsked + 1 }

theorem State.closeReduction_eq (s : State) :
    s.closeReduction = if s.signing then s.reportLosses.askEvaluation else s.reportLosses := rfl

/-- The evaluation timer stopped (R61). -/
def State.stopEvaluation (s : State) : State :=
  { s with sequencer := { s.sequencer with evaluationTimer := none } }

theorem State.closeInterval_eq (o : CountOrder) (s : State) :
    s.closeInterval o = ((s.stopEvaluation.payCount.closeReduction).noteClose o).startRound := rfl

/-! ## The interval timer (R59) -/

/-- The interval timer replaced: no part of an interval close reads it. -/
def State.setIntervalTimer (v : Option Nat) (s : State) : State :=
  { s with sequencer := { s.sequencer with intervalTimer := v } }

section timer
variable (v : Option Nat) (s : State)

theorem State.requestPass_setIntervalTimer (h : Nat) :
    (s.setIntervalTimer v).requestPass h = (s.requestPass h).setIntervalTimer v := by
  unfold State.requestPass
  rw [apply_ite (State.setIntervalTimer v)]
  rfl

theorem State.countClose_setIntervalTimer : (s.setIntervalTimer v).countClose = s.countClose.setIntervalTimer v := by
  unfold State.countClose
  dsimp only
  rw [apply_ite (State.setIntervalTimer v), apply_ite (State.setIntervalTimer v), ← State.requestPass_setIntervalTimer]
  rfl

theorem State.payCount_setIntervalTimer : (s.setIntervalTimer v).payCount = s.payCount.setIntervalTimer v := by
  unfold State.payCount
  rw [apply_ite (State.setIntervalTimer v), ← State.countClose_setIntervalTimer]
  rfl

theorem State.reportChange_setIntervalTimer (k : AlertKey) (a b : Bool) :
    (s.setIntervalTimer v).reportChange k a b = (s.reportChange k a b).setIntervalTimer v := by
  cases a <;> cases b <;> rfl

theorem State.reportLosses_setIntervalTimer :
    (s.setIntervalTimer v).reportLosses = s.reportLosses.setIntervalTimer v := by
  have reports : ∀ (before after : Nat → Bool) (ns : List Nat) (t : State),
      ns.foldl (fun (t : State) n => t.reportChange (alertKey .stationLost n) (before n) (after n)) (t.setIntervalTimer v) =
        (ns.foldl (fun (t : State) n => t.reportChange (alertKey .stationLost n) (before n) (after n)) t).setIntervalTimer v := by
    intro before after ns
    induction ns with
    | nil => exact fun _ => rfl
    | cons n ns ih =>
      intro t
      rw [List.foldl_cons, List.foldl_cons, State.reportChange_setIntervalTimer, ih]
  exact reports s.stationLost s.closeStations.stationLost _ s.closeStations

theorem State.closeReduction_setIntervalTimer :
    (s.setIntervalTimer v).closeReduction = s.closeReduction.setIntervalTimer v := by
  rw [State.closeReduction_eq, State.closeReduction_eq, apply_ite (State.setIntervalTimer v),
    State.reportLosses_setIntervalTimer]
  rfl

theorem State.noteClose_setIntervalTimer (o : CountOrder) :
    (s.setIntervalTimer v).noteClose o = (s.noteClose o).setIntervalTimer v := by
  unfold State.noteClose
  rw [apply_ite (State.setIntervalTimer v)]
  cases o with
  | countFirst =>
    dsimp only
    rw [← State.countClose_setIntervalTimer]
    rfl
  | evaluationFirst n => rfl

theorem State.closeInterval_setIntervalTimer (o : CountOrder) :
    (s.setIntervalTimer v).closeInterval o = (s.closeInterval o).setIntervalTimer v := by
  have stopped : (s.setIntervalTimer v).stopEvaluation = s.stopEvaluation.setIntervalTimer v := rfl
  rw [State.closeInterval_eq, State.closeInterval_eq, stopped, State.payCount_setIntervalTimer,
    State.closeReduction_setIntervalTimer, State.noteClose_setIntervalTimer]
  rfl

end timer

/-- A close stops the evaluation timer and leaves the rest of the sequencer alone (R61). -/
theorem State.closeInterval_sequencer (o : CountOrder) (s : State) :
    (s.closeInterval o).sequencer = { s.sequencer with evaluationTimer := none } := by
  have later : Touches [.modeControl, .composer, .countOwed, .stations, .alerts, .evaluationsAsked, .centre]
      s.stopEvaluation (s.closeInterval o) :=
    ((((State.payCount_touches _).mono (by decide)).trans ((State.closeReduction_touches _).mono (by decide))).trans
      ((State.noteClose_touches _ o).mono (by decide))).trans ((State.startRound_touches _).mono (by decide))
  exact later .sequencer (by decide)

theorem execEvaluationTimerExpiry_open {s : State} (released : s.resetAsserted = false)
    (running : s.sequencer.evaluationTimer.isSome = true) (o : CountOrder) :
    exec (.evaluationTimerExpiry o) s = .next (s.closeInterval o) :=
  (State.unlessReset_released released _).trans (congrArg _ (if_pos running))

/-- Settles O19: the close is as at an evaluation timer's expiry, the reloaded timer standing beside it. -/
theorem intervalTimerAdvancesTheInterval : Obligations.IntervalTimerAdvancesTheInterval := by
  unfold Obligations.IntervalTimerAdvancesTheInterval
  refine ⟨fun s o released running stopped => ?_, fun s o released running opened => ?_⟩
  · refine (State.unlessReset_released released _).trans (congrArg _ ?_)
    rw [State.expireInterval, if_pos running]
    dsimp only
    rw [if_neg (by simp [State.intervalOpen, stopped])]
  · refine ⟨s.expireInterval o, s.closeInterval o, execEvaluationTimerExpiry_open released opened o,
      State.unlessReset_released released _, ?_⟩
    have closed : s.expireInterval o = { (s.closeInterval o).setIntervalTimer (some (s.par.intervalLength * 1000)) with
        sequencer := { (s.closeInterval o).sequencer with
          intervalTimer := some (s.par.intervalLength * 1000)
          interval := ((s.closeInterval o).sequencer.interval + 1) % 256
          markPending := true } } := by
      rw [State.expireInterval, if_pos running]
      dsimp only
      rw [if_pos (show State.intervalOpen { s with sequencer := { s.sequencer with
        intervalTimer := some (s.par.intervalLength * 1000) } } = true from opened)]
      rw [show State.closeInterval o { s with sequencer := { s.sequencer with
        intervalTimer := some (s.par.intervalLength * 1000) } } = _ from
          State.closeInterval_setIntervalTimer (some (s.par.intervalLength * 1000)) s o]
      rfl
    have sequencer := State.closeInterval_sequencer o s
    rw [closed]
    generalize s.closeInterval o = u at sequencer ⊢
    rw [sequencer]
    exact ⟨rfl, rfl, rfl, rfl, rfl, rfl, rfl⟩

end Sys2Proof.Machine
end

section
/-! SUPPORT. The close of an interval as each station and each block sees it (R26, R61, R78, R80, R82, R162), and when
a station is valid for control (R77, R79). -/

namespace Sys2Proof.Machine

/-! ## A station closed (R78, R82) -/

theorem StationRec.missInterval_eq (r : StationRec) : r.missInterval = { r with
    stale := if r.taken then r.stale else min 255 (r.stale + 1)
    missed := if r.taken then r.missed else min 255 (r.missed + 1) } := by
  unfold StationRec.missInterval
  split
  · rfl
  · rfl

/-- Lane records written by number, each by a function of its number. -/
theorem getElem?_foldl_set (f : Nat → LaneRec) (ls : List Nat) (lanes : List LaneRec) (l : Nat) :
    ((ls.map fun l => (l, f l)).foldl (fun ls x => ls.set x.1 x.2) lanes)[l]? =
      if l ∈ ls ∧ l < lanes.length then some (f l) else lanes[l]? := by
  induction ls generalizing lanes with
  | nil => simp
  | cons a ls ih =>
    rw [List.map_cons, List.foldl_cons, ih, List.length_set, List.getElem?_set]
    by_cases here : a = l
    · subst here
      by_cases inside : a < lanes.length <;> simp [inside]
    · simp [here, Ne.symm here]

/-- A lane of the station's list after its lanes have been written. -/
theorem StationRec.lane_putLanes {r : StationRec} {ls : List Nat} (f : Nat → LaneRec) {l : Nat} (listed : l ∈ ls)
    (inside : l < r.lanes.length) : (r.putLanes (ls.map fun l => (l, f l))).lane l = f l := by
  unfold StationRec.lane StationRec.putLanes
  rw [List.getD_eq_getElem?_getD, getElem?_foldl_set, if_pos ⟨listed, inside⟩, Option.getD_some]

section close
variable (n k : Nat) (d : StationDesc) (r : StationRec)

/-- The occupancy history of each lane of the station's list takes an entry (R78). -/
theorem StationRec.close_lane {l : Nat} (listed : l ∈ d.laneList) (inside : l < r.lanes.length) :
    (r.close n k d).lane l = (r.lane l).noteHistory r.taken := by
  have lanes : r.missInterval.lanes = r.lanes := by rw [r.missInterval_eq]
  have written : (r.missInterval.laneRecs d).map (fun x => (x.1, x.2.noteHistory r.taken)) =
      d.laneList.map fun l => (l, (r.lane l).noteHistory r.taken) := by
    unfold StationRec.laneRecs StationRec.lane
    rw [List.map_map, lanes]
    rfl
  show (r.missInterval.putLanes ((r.missInterval.laneRecs d).map (fun x => (x.1, x.2.noteHistory r.taken)))).lane l = _
  rw [written]
  exact StationRec.lane_putLanes _ listed (lanes.symm ▸ inside)

/-- The items of a record that a close leaves alone, its two counts, and its summary. -/
theorem StationRec.close_spec :
    let r' := r.close n k d
    r'.taken = r.taken ∧ r'.poll = r.poll ∧ r'.smoothed = r.smoothed ∧ r'.occupancy = r.occupancy ∧
    r'.stale = (if r.taken then r.stale else min 255 (r.stale + 1)) ∧
    r'.missed = (if r.taken then r.missed else min 255 (r.missed + 1)) ∧
    ∃ c, r'.summary = some c ∧ c.station = n ∧ c.interval = k ∧ c.taken = r.taken ∧
      c.poll = r.poll ∧ c.speed = r.speed ∧ c.occupancy = r.occupancy ∧ c.flow = r.flow ∧ c.usable = r.usable ∧
      c.controlling = (if r.seeded then some (r.smoothed / 16) else none) ∧ c.stale = r'.stale ∧
      c.missed = r'.missed ∧ c.valid = (r.seeded && decide (r'.stale < d.hold)) := by
  unfold StationRec.close
  rw [r.missInterval_eq]
  exact ⟨rfl, rfl, rfl, rfl, rfl, rfl, _, rfl, rfl, rfl, rfl, rfl, rfl, rfl, rfl, rfl, rfl, rfl, rfl, rfl⟩

end close

/-! ## The stations of a close (R78, R80) -/

theorem State.closeStations_stationRec (s : State) (n : Nat) : s.closeStations.stationRec n =
    if n < s.stationCount ∧ n < s.stations.length then
      (s.stationRec n).close n s.sequencer.interval (s.tables.station n) else s.stationRec n := by
  unfold State.closeStations State.stationRec
  dsimp only
  rw [List.getD_eq_getElem?_getD, List.getD_eq_getElem?_getD, List.getElem?_mapIdx]
  by_cases inside : n < s.stations.length
  · rw [List.getElem?_eq_getElem inside]
    by_cases known : n < s.stationCount <;> simp [inside, known]
  · rw [List.getElem?_eq_none (by omega)]
    simp [inside]

/-- A station's hold of R8 is at most 10, and 0 where there is no record. -/
theorem Tables.station_hold_le {t : Tables} (wf : t.Wf) (n : Nat) : (t.station n).hold ≤ 10 := by
  obtain ⟨-, ⟨-, records⟩, -⟩ := wf
  unfold Tables.station
  cases place : t.stations.getD n none with
  | none => exact Nat.zero_le _
  | some d =>
    have held : some d ∈ t.stations := by
      rw [List.getD_eq_getElem?_getD] at place
      cases e : t.stations[n]? with
      | none => rw [e] at place; cases place
      | some o =>
        rw [e, Option.getD_some] at place
        exact place ▸ List.mem_of_getElem? e
    obtain ⟨-, -, -, -, -, -, -, hold⟩ := records _ held d rfl
    exact hold

theorem StationRec.lost_eq_true_iff (d : StationDesc) (r : StationRec) :
    r.lost d = true ↔ 1 ≤ d.hold ∧ d.hold ≤ r.missed := decide_eq_true_iff

/-- A close ends no loss: the missed count of a station only rises to its top. -/
theorem State.stationLost_closeStations {s : State} (wf : s.tables.Wf) {n : Nat} (lost : s.stationLost n = true) :
    s.closeStations.stationLost n = true := by
  have hold := Tables.station_hold_le wf n
  obtain ⟨pos, missed⟩ := (StationRec.lost_eq_true_iff _ _).mp lost
  refine (StationRec.lost_eq_true_iff _ _).mpr ⟨pos, ?_⟩
  show (s.tables.station n).hold ≤ (s.closeStations.stationRec n).missed
  rw [s.closeStations_stationRec]
  split
  · obtain ⟨-, -, -, -, -, count, -⟩ :=
      (s.stationRec n).close_spec n s.sequencer.interval (s.tables.station n)
    rw [count]
    split
    · exact missed
    · omega
  · exact missed

/-- A loss that a close brings, in the manual's words (R80). -/
theorem State.stationLost_rises_iff (s : State) (n : Nat) :
    (s.stationLost n = false ∧ s.closeStations.stationLost n = true) ↔
      (s.stationRec n).missed < (s.tables.station n).hold ∧
        (s.tables.station n).hold ≤ (s.closeStations.stationRec n).missed := by
  have tables : s.closeStations.stationLost n = (s.closeStations.stationRec n).lost (s.tables.station n) := rfl
  rw [tables, ← Bool.not_eq_true, State.stationLost, StationRec.lost_eq_true_iff, StationRec.lost_eq_true_iff]
  omega

/-- Conditions that are only ever begun: each that begins is raised. -/
theorem State.foldl_rises (key : Nat → AlertKey) {before after : Nat → Bool} (k : AlertKey) :
    ∀ (ns : List Nat) (t : State), (∀ n ∈ ns, before n = true → after n = true) → t.alerts.Wf →
      let u := ns.foldl (fun (t : State) n => t.reportChange (key n) (before n) (after n)) t
      let begun := ∃ n ∈ ns, k = key n ∧ before n = false ∧ after n = true
      u.alerts.Wf ∧ (k ∈ u.alerts.present ↔ k ∈ t.alerts.present ∨ begun) ∧
        (k ∈ u.alerts.latched ↔ k ∈ t.alerts.latched ∨ begun) := by
  intro ns
  induction ns with
  | nil => exact fun t _ wf => ⟨wf, by simp, by simp⟩
  | cons n ns ih =>
    intro t only wf
    obtain ⟨wf', present, latched⟩ := ih (t.reportChange (key n) (before n) (after n))
      (fun m hm => only m (List.mem_cons_of_mem _ hm)) (State.reportChange_wf wf _ _ _)
    dsimp only at present latched ⊢
    rw [List.foldl_cons]
    refine ⟨wf', present.trans ?_, latched.trans ?_⟩
    all_goals
      cases b : before n with
      | true => simp [b, only n List.mem_cons_self b, State.reportChange]
      | false =>
        cases a : after n with
        | false => simp [a, b, State.reportChange]
        | true => simp [a, b, State.reportChange, t.alerts.mem_rise_latched _ _ wf.1, or_assoc, or_left_comm]

/-! ## The blocks of a close (R26, R162) -/

theorem State.reportLosses_touches (s : State) : Touches [.alerts] s.closeStations s.reportLosses :=
  Touches.foldl (fun t _ => t.reportChange_touches _ _ _) _ _

theorem State.closeReduction_after_losses (s : State) : Touches [.evaluationsAsked] s.reportLosses s.closeReduction := by
  rw [State.closeReduction_eq]
  exact Touches.ite (touches_evaluationsAsked _ _) (.refl _ _)

/-- What the count of a close in STARTUP leaves in Mode Control (R26). -/
theorem State.countClose_modeControl {s : State} (startup : s.mode = .startup) : s.countClose.modeControl =
    { s.modeControl with
      startupCount := s.modeControl.startupCount + 1
      mode := if s.par.startupEvaluations ≤ s.modeControl.startupCount + 1 then .active else .startup } := by
  unfold State.countClose
  rw [if_pos startup]
  dsimp only
  split
  · exact State.requestPass_touches _ _ .modeControl (by decide)
  · rw [← startup]
    rfl

theorem State.noteClose_of_other {s : State} (o : CountOrder) (other : s.mode ≠ .startup) : s.noteClose o = s :=
  if_neg other

/-- A close with no count owed from before. -/
theorem State.closeInterval_of_none {s : State} (o : CountOrder) (none_owed : s.countOwed = none) :
    s.closeInterval o = ((s.stopEvaluation.closeReduction).noteClose o).startRound := by
  rw [State.closeInterval_eq, State.payCount]
  exact congrArg _ (congrArg (fun t => State.noteClose o (State.closeReduction t)) (if_neg (by
    rw [show s.stopEvaluation.countOwed = none from none_owed]
    decide)))

/-- What a close leaves of its last report, block by block: in STARTUP, in ACTIVE and in STANDBY. -/
theorem State.closeInterval_modes {s : State} (o : CountOrder) (none_owed : s.countOwed = none) :
    let t := s.closeInterval o
    (s.mode = .standby → t.evaluationsAsked = s.evaluationsAsked ∧ t.modeControl = s.modeControl ∧
      t.composer = s.composer ∧ t.countOwed = none) ∧
    (s.mode = .active → t.evaluationsAsked = s.evaluationsAsked + 1 ∧ t.modeControl = s.modeControl ∧
      t.composer = s.composer ∧ t.countOwed = none) ∧
    (s.mode = .startup → t.evaluationsAsked = s.evaluationsAsked + 1 ∧
      (o = .countFirst → t.countOwed = none ∧
        t.modeControl.startupCount = s.modeControl.startupCount + 1 ∧
        t.mode = (if s.par.startupEvaluations ≤ s.modeControl.startupCount + 1 then .active else .startup)) ∧
      ∀ visits, o = .evaluationFirst visits →
        t.countOwed = some visits ∧ t.modeControl = s.modeControl ∧ t.composer = s.composer) := by
  have losses : Touches [.stations, .sequencer, .alerts] s s.stopEvaluation.reportLosses :=
    (((touches_sequencer s _).mono (by decide)).trans ((touches_stations _ _).mono (by decide))).trans
      (s.stopEvaluation.reportLosses_touches.mono (by decide))
  have asked : s.stopEvaluation.reportLosses.evaluationsAsked = s.evaluationsAsked :=
    losses .evaluationsAsked (by decide)
  have control : s.stopEvaluation.reportLosses.modeControl = s.modeControl := losses .modeControl (by decide)
  have composer : s.stopEvaluation.reportLosses.composer = s.composer := losses .composer (by decide)
  have owed : s.stopEvaluation.reportLosses.countOwed = none := (losses .countOwed (by decide)).trans none_owed
  have mode : s.stopEvaluation.reportLosses.mode = s.mode := congrArg ModeControl.mode control
  have par : s.stopEvaluation.reportLosses.par = s.par := congrArg Tables.par (losses .tables (by decide))
  have signing : s.stopEvaluation.signing = s.signing := rfl
  dsimp only
  rw [State.closeInterval_of_none o none_owed, State.closeReduction_eq, signing]
  refine ⟨fun standby => ?_, fun active => ?_, fun startup => ?_⟩
  · have unsigned : s.signing = false := by simp [State.signing, standby]
    rw [unsigned, if_neg (by decide), State.noteClose_of_other o (by simp [mode, standby])]
    exact ⟨asked, control, composer, owed⟩
  · have signs : s.signing = true := by simp [State.signing, active]
    have other : s.stopEvaluation.reportLosses.askEvaluation.mode ≠ .startup :=
      fun h => absurd ((mode.symm.trans h).symm.trans active) nofun
    rw [signs, if_pos rfl, State.noteClose_of_other o other]
    exact ⟨congrArg (· + 1) asked, control, composer, owed⟩
  · have signs : s.signing = true := by simp [State.signing, startup]
    have counts : s.stopEvaluation.reportLosses.askEvaluation.mode = .startup := mode.trans startup
    rw [signs, if_pos rfl]
    unfold State.noteClose
    rw [if_pos counts]
    cases o with
    | countFirst =>
      have counted := State.countClose_modeControl counts
      have touches := s.stopEvaluation.reportLosses.askEvaluation.countClose_touches
      refine ⟨(touches .evaluationsAsked (by decide)).trans (congrArg (· + 1) asked), fun _ =>
        ⟨(touches .countOwed (by decide)).trans owed, ?_, ?_⟩, nofun⟩
      · exact (congrArg ModeControl.startupCount counted).trans (congrArg (·.startupCount + 1) control)
      · refine (congrArg ModeControl.mode counted).trans ?_
        show (if (State.reportLosses _).par.startupEvaluations ≤ (State.reportLosses _).modeControl.startupCount + 1
          then _ else _) = _
        rw [par, control]
    | evaluationFirst n =>
      refine ⟨congrArg (· + 1) asked, nofun, ?_⟩
      rintro _ ⟨⟩
      exact ⟨rfl, control, composer⟩

/-- Settles O20: each station by `close_spec`, the losses by `foldl_rises`, the modes by `closeInterval_modes`. -/
theorem evaluationTimerClosesTheInterval : Obligations.EvaluationTimerClosesTheInterval := by
  unfold Obligations.EvaluationTimerClosesTheInterval
  intro s o released running none_owed
  have closes := State.closeInterval_of_none o none_owed
  have after : Touches [.evaluationsAsked, .modeControl, .composer, .countOwed, .centre] s.stopEvaluation.reportLosses
      (s.closeInterval o) := by
    rw [closes]
    exact ((s.stopEvaluation.closeReduction_after_losses.mono (by decide)).trans
      ((State.noteClose_touches _ o).mono (by decide))).trans ((State.startRound_touches _).mono (by decide))
  have stationRec : ∀ n, (s.closeInterval o).stationRec n = s.stopEvaluation.closeStations.stationRec n := by
    intro n
    have stations : (s.closeInterval o).stations = s.stopEvaluation.closeStations.stations :=
      (after .stations (by decide)).trans (s.stopEvaluation.reportLosses_touches .stations (by decide))
    rw [State.stationRec, stations]
    rfl
  refine ⟨s.closeInterval o, execEvaluationTimerExpiry_open released running o, (s.closeInterval_touches o).rebuild,
    s.closeInterval_sequencer o, ⟨s.centre.rounds + 1, ?centre⟩, fun n known inside => ?station, fun wf sound k => ?losses,
    State.closeInterval_modes o none_owed⟩
  case centre =>
    have before : Touches [.stations, .sequencer, .alerts, .evaluationsAsked, .modeControl, .composer, .countOwed] s
        ((s.stopEvaluation.closeReduction).noteClose o) :=
      (((touches_sequencer s _).mono (by decide)).trans ((State.closeReduction_touches _).mono (by decide))).trans
        ((State.noteClose_touches _ o).mono (by decide))
    have centre : ((s.stopEvaluation.closeReduction).noteClose o).centre = s.centre := before .centre (by decide)
    have sequencer : ((s.stopEvaluation.closeReduction).noteClose o).sequencer = s.stopEvaluation.sequencer :=
      ((State.noteClose_touches _ o) .sequencer (by decide)).trans ((State.closeReduction_touches _) .sequencer (by decide))
    rw [closes, State.startRound, centre, sequencer]
    rfl
  case station =>
    have closed : (s.closeInterval o).stationRec n =
        (s.stationRec n).close n s.sequencer.interval (s.tables.station n) :=
      (stationRec n).trans ((s.stopEvaluation.closeStations_stationRec n).trans (if_pos ⟨known, inside⟩))
    dsimp only
    rw [closed]
    obtain ⟨taken, poll, smoothed, occupancy, stale, missed, summary⟩ :=
      (s.stationRec n).close_spec n s.sequencer.interval (s.tables.station n)
    refine ⟨taken, poll, smoothed, occupancy, stale, missed, fun l listed lane => ?_, summary⟩
    rw [StationRec.close_lane _ _ _ _ listed lane]
    exact ⟨rfl, rfl⟩
  case losses =>
    obtain ⟨-, present, latched⟩ := State.foldl_rises (alertKey .stationLost ·) k (List.range s.stationCount)
      s.stopEvaluation.closeStations (before := s.stopEvaluation.stationLost)
      (after := s.stopEvaluation.closeStations.stationLost) (fun n _ => State.stationLost_closeStations wf) sound
    have begun : (∃ n ∈ List.range s.stationCount, k = alertKey .stationLost n ∧ s.stopEvaluation.stationLost n = false ∧
        s.stopEvaluation.closeStations.stationLost n = true) ↔ ∃ n < s.stationCount, k = alertKey .stationLost n ∧
          (s.stationRec n).missed < (s.tables.station n).hold ∧
          (s.tables.station n).hold ≤ ((s.closeInterval o).stationRec n).missed := by
      refine exists_congr fun n => and_congr List.mem_range (and_congr_right fun _ => ?_)
      rw [stationRec n]
      exact s.stopEvaluation.stationLost_rises_iff n
    have alerts : (s.closeInterval o).alerts = s.stopEvaluation.reportLosses.alerts := after .alerts (by decide)
    dsimp only
    rw [alerts, ← begun]
    exact ⟨present, latched⟩

/-! ## Validity for control (R77, R79) -/

theorem StationRec.valid_iff (d : StationDesc) (r : StationRec) :
    r.valid d = true ↔ r.seeded = true ∧ r.stale < d.hold := by simp [StationRec.valid]

theorem StationRec.valid_eq_false_iff (d : StationDesc) {r : StationRec} (seeded : r.seeded = true) :
    r.valid d = false ↔ d.hold ≤ r.stale := by simp [StationRec.valid, seeded]

/-- One count more reaches the hold exactly from just below it. -/
theorem stale_reaches_hold_iff {hold stale : Nat} (short : hold ≤ 10) (below : stale < hold) :
    hold ≤ min 255 (stale + 1) ↔ stale + 1 = hold := by omega

/-- What a taking does to the counts of a seeded station (R75, R77). -/
theorem StationRec.reduce_counts (par : Params) (d : StationDesc) {r : StationRec} (seeded : r.seeded = true) :
    (r.reduce par d).seeded = true ∧ (r.reduce par d).missed = 0 ∧
      (r.reduce par d).stale = if 1 ≤ (r.reduce par d).usable then 0 else min 255 (r.stale + 1) := by
  refine ⟨?_, rfl, rfl⟩
  show (r.seeded || _) = true
  rw [seeded, Bool.true_or]

/-- Settles O24: the counts of a close and of a taking against the hold. -/
theorem validForControl : Obligations.ValidForControl := by
  unfold Obligations.ValidForControl
  refine ⟨StationRec.valid_iff, fun d r short untaken valid => ?close, fun par d r pos short seeded => ?taking,
    fun s g n => List.mem_filter⟩
  case close =>
    obtain ⟨seeded, below⟩ := (r.valid_iff d).mp valid
    have still : r.missInterval.seeded = true := by
      rw [r.missInterval_eq]
      exact seeded
    have stale : r.missInterval.stale = min 255 (r.stale + 1) := by
      rw [r.missInterval_eq, untaken]
      rfl
    rw [StationRec.valid_eq_false_iff d still, stale]
    exact stale_reaches_hold_iff short below
  case taking =>
    obtain ⟨still, missed, stale⟩ := r.reduce_counts par d seeded
    refine ⟨fun unusable valid => ?_, fun usable => ?_, missed⟩
    · rw [StationRec.valid_eq_false_iff d still, stale, if_neg (by omega)]
      exact stale_reaches_hold_iff short ((r.valid_iff d).mp valid).2
    · rw [if_pos usable] at stale
      exact ⟨(StationRec.valid_iff _ _).mpr ⟨still, by omega⟩, stale⟩

end Sys2Proof.Machine
end

section
/-! SUPPORT. Speed Control and the waiting results: the governor (R114), the dwell decision and its expiry (R116, R117),
LIMIT SET (R107 to R109), the offers of R97, and a band evaluation (R100 to R104). -/

namespace Sys2Proof.Machine

/-! ## Waiting results (R97, R169) -/

/-- The reports that offered results become, numbered from the next report number. -/
def offered (number : Nat) (rs : List InjectionResult) : List Report :=
  rs.mapIdx fun i r => { number := (number + i) % 65536, body := .injectionResult r, offset := 0 }

theorem offered_cons (number : Nat) (r : InjectionResult) (rs : List InjectionResult) :
    offered number (r :: rs) = { number := number % 65536, body := .injectionResult r, offset := 0 } ::
      offered ((number + 1) % 65536) rs := by
  unfold offered
  rw [List.mapIdx_cons]
  refine congrArg (_ :: ·) (congrArg (fun f => List.mapIdx f rs) (funext fun i => funext fun r => ?_))
  simp only [Report.mk.injEq, and_true]
  omega

/-- How many of a run of results the Report Queue admits. -/
def State.admits (rs : List InjectionResult) (s : State) : Nat := min rs.length (48 - s.centre.queue.length)

theorem offerFrom_eq (rs : List InjectionResult) (s : State) (numbered : s.centre.nextReport < 65536) :
    offerFrom rs s = { s with
      waiting := rs.drop (s.admits rs)
      centre := { s.centre with
        queue := s.centre.queue ++ offered s.centre.nextReport (rs.take (s.admits rs))
        nextReport := (s.centre.nextReport + s.admits rs) % 65536 } } := by
  induction rs generalizing s with
  | nil =>
    have none : s.admits [] = 0 := Nat.zero_min _
    rw [none, Nat.add_zero, Nat.mod_eq_of_lt numbered, offerFrom]
    simp [offered]
  | cons r rs ih =>
    unfold offerFrom
    split
    next room =>
      have short : s.centre.queue.length < 48 := of_decide_eq_true room
      have one_more : s.admits (r :: rs) = (s.offerReport (.injectionResult r)).admits rs + 1 := by
        unfold State.admits State.offerReport
        rw [if_pos room, List.length_cons, List.length_append, List.length_singleton]
        omega
      have next : (s.offerReport (.injectionResult r)).centre.nextReport = (s.centre.nextReport + 1) % 65536 := by
        rw [State.offerReport, if_pos room]
      rw [ih _ (by rw [next]; exact Nat.mod_lt _ (by decide)), next, one_more, List.drop_succ_cons, List.take_succ_cons,
        offered_cons, Nat.mod_eq_of_lt numbered, Nat.mod_add_mod, Nat.add_assoc, Nat.add_comm 1]
      have queue : (s.offerReport (.injectionResult r)).centre.queue = s.centre.queue ++
          [{ number := s.centre.nextReport, body := .injectionResult r, offset := 0 }] := by
        rw [State.offerReport, if_pos room]
      rw [queue, List.append_assoc, State.offerReport, if_pos room]
      rfl
    next full =>
      have top : 48 ≤ s.centre.queue.length := Nat.le_of_not_lt fun short => full (decide_eq_true short)
      have none : s.admits (r :: rs) = 0 := by
        unfold State.admits
        omega
      rw [none, Nat.add_zero, Nat.mod_eq_of_lt numbered]
      simp [offered]

/-- Settles O26: the offers are `offerFrom`, which admits while there is room. -/
theorem waitingResultsAreOffered : Obligations.WaitingResultsAreOffered := by
  unfold Obligations.WaitingResultsAreOffered
  intro s released numbered
  refine ⟨s.offerWaiting, State.unlessReset_released released _, ?_⟩
  rw [State.offerWaiting, offerFrom_eq _ _ numbered]
  exact ⟨rfl, rfl, rfl⟩

/-! ## The governor (R114) -/

theorem DeliveryState.out_eq_false_iff (d : DeliveryState) : d.out = false ↔ d ≠ .failed ∧ d ≠ .inLocal := by
  simp [DeliveryState.out]

theorem DeliveryState.out_eq_true_iff (d : DeliveryState) : d.out = true ↔ d = .failed ∨ d = .inLocal := by
  simp [DeliveryState.out]

/-- No cascade break from gantry g up to the one before h, and every gantry between them out (R114). -/
def State.reaches (s : State) (g h : Nat) : Prop :=
  (∀ j, g ≤ j → j < h → (s.tables.gantry j).cascadeBreak = false) ∧
    ∀ j, g < j → j < h → (s.deliveryRec j).state.out = true

/-- The search of the governor, one gantry on. -/
theorem State.reaches_succ {s : State} {g h : Nat} (beyond : g + 1 < h) : s.reaches g h ↔
    (s.tables.gantry g).cascadeBreak = false ∧ (s.deliveryRec (g + 1)).state.out = true ∧ s.reaches (g + 1) h := by
  constructor
  · rintro ⟨joined, out⟩
    exact ⟨joined g le_rfl (by omega), out (g + 1) (by omega) beyond, fun j a b => joined j (by omega) b,
      fun j a b => out j (by omega) b⟩
  · rintro ⟨here, next, joined, out⟩
    refine ⟨fun j a b => ?_, fun j a b => ?_⟩
    · obtain rfl | later := Nat.eq_or_lt_of_le a
      · exact here
      · exact joined j later b
    · obtain rfl | later := Nat.eq_or_lt_of_le (Nat.succ_le_of_lt a)
      · exact next
      · exact out j later b

theorem State.governorFrom_eq_some_iff (s : State) (h : Nat) : ∀ fuel g, s.governorFrom fuel g = some h ↔
    g < h ∧ h ≤ g + fuel ∧ h < s.gantryCount ∧ (s.deliveryRec h).state.out = false ∧ s.reaches g h := by
  intro fuel
  induction fuel with
  | zero => exact fun g => ⟨nofun, fun ⟨above, within, _⟩ => absurd above (by omega)⟩
  | succ fuel ih =>
    intro g
    unfold State.governorFrom
    split
    next broken =>
      refine ⟨nofun, fun ⟨above, _, _, _, joined, _⟩ => ?_⟩
      rw [joined g le_rfl above] at broken
      cases broken
    next joined =>
      rw [Bool.not_eq_true] at joined
      split
      next last => exact ⟨nofun, fun ⟨above, _, inside, _⟩ => absurd inside (by omega)⟩
      next inside =>
        split
        next out =>
          rw [ih]
          constructor
          · rintro ⟨above, within, known, fit, reach⟩
            exact ⟨by omega, by omega, known, fit, (State.reaches_succ above).mpr ⟨joined, out, reach⟩⟩
          · rintro ⟨above, within, known, fit, reach⟩
            have beyond : g + 1 < h := by
              refine lt_of_le_of_ne above fun here => ?_
              rw [← here, out] at fit
              cases fit
            obtain ⟨-, -, reach⟩ := (State.reaches_succ beyond).mp reach
            exact ⟨beyond, by omega, known, fit, reach⟩
        next fit =>
          rw [Bool.not_eq_true] at fit
          constructor
          · rintro ⟨⟩
            refine ⟨by omega, by omega, by omega, fit, fun j a b => ?_, fun j a b => absurd b (by omega)⟩
            rw [show j = g by omega]
            exact joined
          · rintro ⟨above, within, known, -, reach⟩
            by_contra other
            have beyond : g + 1 < h := lt_of_le_of_ne above fun here => other (congrArg some here)
            obtain ⟨-, out, -⟩ := (State.reaches_succ beyond).mp reach
            rw [fit] at out
            cases out

/-- Settles O29: the search has the fuel of all gantries. -/
theorem governorIsTheNearest : Obligations.GovernorIsTheNearest := by
  unfold Obligations.GovernorIsTheNearest
  refine ⟨fun s g h => ?_, fun s g b => ?_⟩
  · unfold State.governor
    rw [State.governorFrom_eq_some_iff, DeliveryState.out_eq_false_iff]
    unfold State.reaches
    simp only [DeliveryState.out_eq_true_iff]
    constructor
    · rintro ⟨above, -, known, ⟨up, remote⟩, joined, out⟩
      exact ⟨above, known, up, remote, joined, out⟩
    · rintro ⟨above, known, up, remote, joined, out⟩
      exact ⟨above, by omega, known, ⟨up, remote⟩, joined, out⟩
  · unfold State.cascadeBound
    cases governor : s.governor g with
    | none => simp
    | some h => simp [eq_comm]

/-! ## Pass requests (R140) -/

theorem State.requestPass_eq (s : State) (h : Nat) : s.requestPass h =
    { s with composer := { s.composer with pass := (s.requestPass h).composer.pass } } := by
  obtain ⟨-, e⟩ | ⟨-, n, e, -⟩ := s.requestPass_cases h <;> rw [e]

theorem State.requestPass_quiet {s : State} (quiet : s.signing = false) (h : Nat) : s.requestPass h = s :=
  if_neg (by simp [quiet])

theorem State.requestPass_signing {s : State} (signing : s.signing = true) (h : Nat) :
    ∃ n, s.requestPass h = { s with composer := { s.composer with pass := some n } } ∧ h ≤ n ∧
      (n = h ∨ s.composer.pass = some n) := by
  obtain ⟨quiet, -⟩ | ⟨-, n, e, above, here, -⟩ := s.requestPass_cases h
  · exact absurd (signing.symm.trans quiet) nofun
  · exact ⟨n, e, above, here⟩

/-! ## Dwell (R116, R117) -/

section dwell
variable {p : Params} {dwell : Nat} {candidate : Limit} {c : GantryControl}

/-- The candidate taken: a demand that does not change leaves the dwell timer as it runs. -/
def GantryControl.takeCandidate (dwell : Nat) (candidate : Limit) (c : GantryControl) : GantryControl :=
  { c with demanded := some candidate, pendingIncrease := false,
           dwell := if c.demanded = some candidate then c.dwell else dwell * 1000 }

theorem GantryControl.settleDwell_of_none (h : c.demanded = none) :
    c.settleDwell p dwell candidate = c.takeCandidate dwell candidate := by
  unfold GantryControl.settleDwell
  rw [h]
  unfold GantryControl.takeCandidate
  rw [h]

theorem GantryControl.settleDwell_of_some {l : Limit} (h : c.demanded = some l) :
    c.settleDwell p dwell candidate = if p.value l < p.value candidate ∧ 0 < c.dwell then
      { c with pendingIncrease := true } else c.takeCandidate dwell candidate := by
  unfold GantryControl.settleDwell
  rw [h]
  unfold GantryControl.takeCandidate
  rw [h]

end dwell

/-- A timer at 0 has its expiry taken without a change of the timer. -/
theorem GantryControl.expire_of_zero {c : GantryControl} (h : c.dwell = 0) : c.expire = { c with expiryDue := false } := by
  unfold GantryControl.expire
  rw [h, ite_self]

/-- Settles O30: the decision branch by branch, and the expiry with its pass request. -/
theorem dwellHoldsRises : Obligations.DwellHoldsRises := by
  unfold Obligations.DwellHoldsRises
  refine ⟨fun p dwell candidate c => ⟨fun fresh => ?fresh, fun l was held => ?held, fun l was free => ?free, ?frame⟩,
    fun s g released signing known inside ran => ?expiry, fun s g quiet => ?quiet⟩
  case fresh =>
    rw [GantryControl.settleDwell_of_none fresh]
    exact ⟨rfl, rfl, if_neg (by rw [fresh]; nofun)⟩
  case held =>
    intro running
    rw [GantryControl.settleDwell_of_some was, if_pos ⟨held, running⟩]
  case free =>
    rw [GantryControl.settleDwell_of_some was, if_neg free]
    refine ⟨rfl, rfl, ?_⟩
    show (if c.demanded = some candidate then _ else _) = _
    rw [was]
    simp only [Option.some.injEq, eq_comm]
  case frame =>
    unfold GantryControl.settleDwell
    dsimp only
    split
    · exact ⟨rfl, rfl, rfl⟩
    · split <;> exact ⟨rfl, rfl, rfl⟩
  case expiry =>
    have runs : exec (.dwellTimerExpiry g) s = .next (s.expireDwell g) :=
      (State.unlessReset_released released _).trans (congrArg _ (if_pos (by simp [signing, known])))
    refine ⟨s.expireDwell g, runs, (s.expireDwell_touches g).rebuild, ?_⟩
    unfold State.expireDwell
    dsimp only
    rw [GantryControl.expire_of_zero ran]
    split
    next pending =>
      obtain ⟨n, requested, above, here⟩ := State.requestPass_signing
        (s := s.setControl g { s.gantryControl g with expiryDue := false }) signing g
      rw [requested]
      exact ⟨rfl, fun clear => absurd (pending.symm.trans clear) nofun, fun _ => ⟨n, rfl, above, here⟩⟩
    next clear => exact ⟨rfl, fun _ => rfl, fun pending => absurd pending clear⟩
  case quiet =>
    have idle : s.unlessReset (fun t => if t.signing && decide (g < t.gantryCount) then t.expireDwell g else t) =
        .next s := by
      unfold State.unlessReset
      dsimp only
      simp only [quiet, Bool.false_and, Bool.false_eq_true, if_false, ite_self]
    exact idle

/-! ## LIMIT SET (R107 to R109) -/

theorem State.idHeldBy_of_free {s : State} {id : Nat} (limits : ∀ o ∈ s.limitOrders, o.id ≠ id)
    (closures : ∀ c ∈ s.closures.register, c.id ≠ id) : s.idHeldBy id = none := by
  unfold State.idHeldBy
  rw [if_neg (by simpa using limits), if_neg (by simpa using closures)]

/-- What the cap of an order settles to (R108). -/
theorem Params.settleCap_spec {p : Params} (requested : Nat) (filled : p.displaySet ≠ [])
    (rising : p.displaySet.Pairwise (· < ·)) :
    (p.settleCap requested).1 ∈ p.displaySet ∧
    ((∃ v ∈ p.displaySet, v ≤ requested) → (p.settleCap requested).1 ≤ requested ∧
      (∀ v ∈ p.displaySet, v ≤ requested → v ≤ (p.settleCap requested).1) ∧ (p.settleCap requested).2 = false) ∧
    ((∀ v ∈ p.displaySet, requested < v) →
      (∀ v ∈ p.displaySet, (p.settleCap requested).1 ≤ v) ∧ (p.settleCap requested).2 = true) := by
  unfold Params.settleCap
  cases within : (p.displaySet.filter (· ≤ requested)).getLast? with
  | some v =>
    obtain ⟨held, greatest⟩ := getLast?_greatest _ (rising.filter _) v within
    obtain ⟨member, below⟩ := List.mem_filter.mp held
    rw [decide_eq_true_eq] at below
    refine ⟨member, fun _ => ⟨below, fun w hw le => greatest w (List.mem_filter.mpr ⟨hw, by simpa using le⟩), rfl⟩,
      fun above => ?_⟩
    exact absurd (above v member) (by omega)
  | none =>
    have none_within : ∀ v ∈ p.displaySet, requested < v := by
      rw [List.getLast?_eq_none_iff, List.filter_eq_nil_iff] at within
      exact fun v hv => by simpa using within v hv
    cases displays : p.displaySet with
    | nil => exact absurd displays filled
    | cons first rest =>
      rw [displays] at rising none_within
      refine ⟨List.mem_cons_self, fun ⟨v, hv, le⟩ => absurd (none_within v hv) (by omega), fun _ => ⟨fun v hv => ?_, rfl⟩⟩
      obtain rfl | later := List.mem_cons.mp hv
      · exact le_rfl
      · exact le_of_lt ((List.pairwise_cons.mp rising).1 v later)

/-- The top of the Display Set is its greatest member (R7). -/
theorem Params.vtop_spec {p : Params} (filled : p.displaySet ≠ []) (rising : p.displaySet.Pairwise (· < ·)) :
    p.vtop ∈ p.displaySet ∧ ∀ v ∈ p.displaySet, v ≤ p.vtop := by
  refine getLast?_greatest _ rising _ ?_
  unfold Params.vtop
  rw [List.getLastD_eq_getLast?, List.getLast?_eq_some_getLast filled]
  rfl

/-- An order that passes the checks of R107 joins the register's end. -/
theorem State.limitSet_accepted {s : State} {id f l : Nat} (requested : Nat) (legend : Option Legend)
    (configured : s.mode ≠ .unconfigured) (named : id ≠ 0) (free : s.idHeldBy id = none)
    (room : s.limitOrders.length < 8) (ordered : f ≤ l) (known : l < s.gantryCount) :
    s.limitSet id f l requested legend =
      (State.requestPass l { s with limitOrders := s.limitOrders ++ [
        { id := id, firstGantry := f, lastGantry := l, cap := (s.par.settleCap requested).1, legend := legend }] },
      acceptedOrClamped (s.par.settleCap requested).2 (.cap (s.par.settleCap requested).1)) := by
  unfold State.limitSet
  rw [if_neg configured, if_neg named, free]
  dsimp only
  rw [if_neg (by simpa using room), if_neg (by omega)]

/-- Settles O31: the cap is `settleCap_spec`, the rest the branch of an accepted order. -/
theorem limitSetSettlesTheCap : Obligations.LimitSetSettlesTheCap := by
  unfold Obligations.LimitSetSettlesTheCap
  intro s id f l requested legend configured named limits closures room ordered known filled rising
  have accepts : s.carryOut (.limitSet id f l requested legend) = _ :=
    State.limitSet_accepted requested legend configured named (State.idHeldBy_of_free limits closures) room ordered known
  obtain ⟨member, lower, clamped⟩ := Params.settleCap_spec requested filled rising
  obtain ⟨top, below_top⟩ := Params.vtop_spec filled rising
  rw [accepts]
  refine ⟨(s.par.settleCap requested).1, ?frame, ?register, ?standby, ?signing, rfl, member, fun listed => ?exact,
    fun within => ?lower, fun above => ?clamped, fun beyond => ?top⟩
  case frame =>
    rw [State.requestPass_eq]
  case register =>
    rw [State.requestPass_eq]
  case standby =>
    intro standby
    rw [State.requestPass_quiet (by simp [State.signing, State.mode] at standby ⊢; simp [standby])]
  case signing =>
    intro signs
    obtain ⟨n, requested, above, here⟩ := State.requestPass_signing (s := { s with limitOrders := s.limitOrders ++ [
      { id := id, firstGantry := f, lastGantry := l, cap := (s.par.settleCap requested).1, legend := legend }] })
      (decide_eq_true signs) l
    rw [requested]
    exact ⟨n, rfl, above, here⟩
  case exact =>
    obtain ⟨le, greatest, -⟩ := lower ⟨requested, listed, le_rfl⟩
    exact le_antisymm le (greatest requested listed le_rfl)
  case lower =>
    obtain ⟨le, greatest, unclamped⟩ := lower within
    refine ⟨le, greatest, ?_⟩
    rw [unclamped]
    rfl
  case clamped =>
    obtain ⟨smallest, isClamped⟩ := clamped above
    refine ⟨smallest, ?_⟩
    rw [isClamped]
    rfl
  case top =>
    obtain ⟨-, greatest, -⟩ := lower ⟨_, top, beyond⟩
    exact le_antisymm (below_top _ member) (greatest _ top beyond)

end Sys2Proof.Machine
end

section
/-! SUPPORT. A band evaluation gantry by gantry, the pass it requests, and the count of a close that waits for it (R26,
R100 to R104). -/

namespace Sys2Proof.Machine

/-! ## One gantry (R101 to R103) -/

/-- The least of a list and a start value bounds both, and is one of them. -/
theorem foldl_min_spec (l : List Nat) (a : Nat) :
    (∀ x ∈ a :: l, l.foldl min a ≤ x) ∧ l.foldl min a ∈ a :: l := by
  induction l generalizing a with
  | nil => simp
  | cons y ys ih =>
    obtain ⟨below, held⟩ := ih (min a y)
    rw [List.foldl_cons]
    have least := below (min a y) List.mem_cons_self
    refine ⟨fun x hx => ?_, ?_⟩
    · obtain rfl | rfl | later := (List.mem_cons.mp hx).imp_right List.mem_cons.mp
      · omega
      · omega
      · exact below x (List.mem_cons_of_mem _ later)
    · obtain e | later := List.mem_cons.mp held
      · rw [e]
        obtain h | h := Nat.le_total a y
        · rw [Nat.min_eq_left h]
          exact List.mem_cons_self
        · rw [Nat.min_eq_right h]
          exact List.mem_cons_of_mem _ List.mem_cons_self
      · exact List.mem_cons_of_mem _ (List.mem_cons_of_mem _ later)

section gantry
variable {s : State} {g : Nat}

/-- The evaluation touches the band and the unsupported count alone. -/
theorem State.evaluateGantry_frame (s : State) (g : Nat) : s.evaluateGantry g = { s.gantryControl g with
    band := (s.evaluateGantry g).band, unsupported := (s.evaluateGantry g).unsupported } := by
  unfold State.evaluateGantry
  dsimp only
  split
  · split
    · rfl
    · split <;> rfl
  · rfl

/-- A gantry without a valid window station counts toward its fallback band (R102). -/
theorem State.evaluateGantry_unsupported (empty : s.validWindow g = []) :
    let c := s.gantryControl g
    let c' := s.evaluateGantry g
    let d := s.tables.gantry g
    (d.unsupportedHold ≤ c.unsupported → c' = c) ∧
    (c.unsupported + 1 = d.unsupportedHold → c'.unsupported = d.unsupportedHold ∧ c'.band = d.fallback) ∧
    (c.unsupported + 1 < d.unsupportedHold → c'.unsupported = c.unsupported + 1 ∧ c'.band = c.band) := by
  dsimp only
  unfold State.evaluateGantry
  rw [empty]
  dsimp only
  refine ⟨fun held => if_pos held, fun reached => ?_, fun short => ?_⟩
  · rw [if_neg (by omega), if_pos (by omega)]
    exact ⟨reached, rfl⟩
  · rw [if_neg (by omega), if_neg (by omega)]
    exact ⟨rfl, rfl⟩

/-- A gantry with one settles its band on the least controlling speed and the greatest occupancy (R101, R103). -/
theorem State.evaluateGantry_supported (filled : s.validWindow g ≠ []) :
    (s.evaluateGantry g).unsupported = 0 ∧
    ∃ vc oc, (s.evaluateGantry g).band = s.tables.settleBand vc oc (s.gantryControl g).band ∧
      (∀ m ∈ s.validWindow g, vc ≤ (s.stationRec m).controlling ∧ (s.stationRec m).occupancy ≤ oc) ∧
      (∃ m ∈ s.validWindow g, vc = (s.stationRec m).controlling) ∧
      ∃ m ∈ s.validWindow g, oc = (s.stationRec m).occupancy := by
  unfold State.evaluateGantry
  cases window : s.validWindow g with
  | nil => exact absurd window filled
  | cons n rest =>
    obtain ⟨below, attained⟩ :=
      foldl_min_spec (rest.map fun m => (s.stationRec m).controlling) (s.stationRec n).controlling
    obtain ⟨above, first, reached⟩ :=
      foldl_max_spec (rest.map fun m => (s.stationRec m).occupancy) (s.stationRec n).occupancy
    refine ⟨rfl, _, _, rfl, fun m hm => ⟨?_, ?_⟩, ?_, ?_⟩
    · exact below _ (List.mem_map_of_mem (f := fun m => (s.stationRec m).controlling) hm)
    · obtain rfl | later := List.mem_cons.mp hm
      · exact first
      · exact above _ (List.mem_map_of_mem (f := fun m => (s.stationRec m).occupancy) later)
    · obtain ⟨m, hm, e⟩ := List.mem_map.mp
        (show _ ∈ (n :: rest).map fun m => (s.stationRec m).controlling from attained)
      exact ⟨m, hm, e.symm⟩
    · obtain e | later := reached
      · exact ⟨n, List.mem_cons_self, e⟩
      · obtain ⟨m, hm, e⟩ := List.mem_map.mp later
        exact ⟨m, List.mem_cons_of_mem _ hm, e.symm⟩

end gantry

/-! ## Every gantry (R100, R104) -/

/-- The records after a band evaluation. -/
theorem State.evaluateBands_gantryControl {s : State} {g : Nat} (inside : g < s.control.length) :
    s.evaluateBands.gantryControl g = if g < s.gantryCount then s.evaluateGantry g else s.gantryControl g := by
  have control : s.evaluateBands.control =
      s.control.mapIdx (fun g c => if g < s.gantryCount then s.evaluateGantry g else c) := by
    unfold State.evaluateBands
    dsimp only
    rw [State.requestPass_touches _ _ .control (by decide)]
    exact State.reportAll_touches _ _ _ .control (by decide)
  unfold State.gantryControl
  rw [control, List.getD_eq_getElem?_getD, List.getElem?_mapIdx, List.getD_eq_getElem?_getD,
    List.getElem?_eq_getElem inside]
  rfl

theorem State.requestPass_idle {s : State} (signing : s.signing = true) (idle : s.composer.pass = none) (h : Nat) :
    (s.requestPass h).composer = { s.composer with pass := some h } := by
  unfold State.requestPass
  rw [if_pos signing, idle]

/-- The pass of a band evaluation starts from the most downstream gantry, no pass running (R100). -/
theorem State.evaluateBands_composer {s : State} (signing : s.signing = true) (idle : s.composer.pass = none) :
    s.evaluateBands.composer = { s.composer with pass := some (s.gantryCount - 1) } := by
  have evaluated : ∃ t, Touches [.control, .alerts] s t ∧ s.evaluateBands = t.requestPass s.lastGantry :=
    ⟨_, ((touches_control s _).mono (by decide)).trans ((State.reportAll_touches _ _ _).mono (by decide)), rfl⟩
  obtain ⟨t, touches, e⟩ := evaluated
  have composer : t.composer = s.composer := touches .composer (by decide)
  have control : t.modeControl = s.modeControl := touches .modeControl (by decide)
  have signs : t.signing = true := by
    rw [State.signing, State.mode, control]
    exact signing
  rw [e, State.requestPass_idle signs (composer ▸ idle), composer]
  rfl

/-! ## The count of a close after the evaluation (R26) -/

/-- The count owed replaced: no part of a band evaluation reads it. -/
def State.oweCount (v : Option Nat) (s : State) : State := { s with countOwed := v }

section owed
variable (v : Option Nat) (s : State)

theorem State.requestPass_oweCount (h : Nat) : (s.oweCount v).requestPass h = (s.requestPass h).oweCount v := by
  unfold State.requestPass
  rw [apply_ite (State.oweCount v)]
  rfl

theorem State.reportAll_oweCount (falls rises : List AlertKey) :
    (s.oweCount v).reportAll falls rises = (s.reportAll falls rises).oweCount v := by
  have lower : ∀ (ks : List AlertKey) (t : State),
      ks.foldl (fun (t : State) k => t.lower k) (t.oweCount v) = (ks.foldl (fun (t : State) k => t.lower k) t).oweCount v := by
    intro ks
    induction ks with
    | nil => exact fun _ => rfl
    | cons k ks ih => exact fun t => ih (t.lower k)
  have raise : ∀ (ks : List AlertKey) (t : State),
      ks.foldl (fun (t : State) k => t.raise k) (t.oweCount v) = (ks.foldl (fun (t : State) k => t.raise k) t).oweCount v := by
    intro ks
    induction ks with
    | nil => exact fun _ => rfl
    | cons k ks ih => exact fun t => ih (t.raise k)
  unfold State.reportAll
  rw [lower, raise]

theorem State.evaluateBands_oweCount : (s.oweCount v).evaluateBands = s.evaluateBands.oweCount v := by
  unfold State.evaluateBands
  dsimp only
  rw [← State.requestPass_oweCount, ← State.reportAll_oweCount]
  rfl

end owed

/-- The count of a close in STARTUP: it goes on, or ends the phase with a pass from the most downstream gantry (R26). -/
theorem State.countClose_startup {s : State} (startup : s.mode = .startup) :
    (s.modeControl.startupCount + 1 < s.par.startupEvaluations → s.countClose = { s with
      modeControl := { s.modeControl with startupCount := s.modeControl.startupCount + 1 } }) ∧
    (s.par.startupEvaluations ≤ s.modeControl.startupCount + 1 → ∃ n, s.gantryCount - 1 ≤ n ∧ s.countClose = { s with
      modeControl := { s.modeControl with startupCount := s.modeControl.startupCount + 1, mode := .active }
      composer := { s.composer with pass := some n } }) := by
  unfold State.countClose
  rw [if_pos startup]
  dsimp only
  refine ⟨fun short => if_neg (by omega), fun reached => ?_⟩
  rw [if_pos reached]
  obtain ⟨n, e, above, -⟩ := State.requestPass_signing (s := State.setMode .active { s with
    modeControl := { s.modeControl with startupCount := s.modeControl.startupCount + 1 } }) rfl s.lastGantry
  exact ⟨n, above, e⟩

theorem State.countClose_of_other {s : State} (other : s.mode ≠ .startup) : s.countClose = s := if_neg other

/-- A band evaluation asked for, taken. -/
theorem State.takeEvaluation_of_asked {s : State} {n : Nat} (asked : s.evaluationsAsked = n + 1) :
    s.takeEvaluation = (if s.signing then State.evaluateBands { s with evaluationsAsked := n }
      else { s with evaluationsAsked := n }).countEvaluated := by
  unfold State.takeEvaluation
  rw [if_neg (by omega), asked]
  rfl

theorem State.countEvaluated_of_ne {s : State} (h : s.countOwed ≠ some 0) : s.countEvaluated = s := if_neg h

theorem State.countEvaluated_of_zero {s : State} (h : s.countOwed = some 0) :
    s.countEvaluated = (s.oweCount none).countClose := by
  rw [State.countEvaluated, if_pos h, State.payCount, h]
  rfl

theorem State.oweCount_none {s : State} (h : s.countOwed = none) : s.oweCount none = s := by
  rw [State.oweCount, ← h]

/-- A band evaluation taken in STARTUP or ACTIVE, whatever count is owed. -/
theorem execBandEvaluation_signing {s : State} {n : Nat} (released : s.resetAsserted = false)
    (asked : s.evaluationsAsked = n + 1) (signing : s.signing = true) (v : Option Nat) :
    exec .bandEvaluation (s.oweCount v) =
      .next ((State.evaluateBands { s with evaluationsAsked := n }).oweCount v).countEvaluated := by
  refine (State.unlessReset_released (s := s.oweCount v) released _).trans (congrArg _ ?_)
  rw [State.takeEvaluation_of_asked (s := s.oweCount v) asked]
  exact congrArg _ ((if_pos signing).trans (State.evaluateBands_oweCount v { s with evaluationsAsked := n }))

/-- Settles O28: `evaluateBands` gantry by gantry, and the count owed carried past it. -/
theorem bandsAreEvaluated : Obligations.BandsAreEvaluated := by
  unfold Obligations.BandsAreEvaluated
  intro s n released asked unowed
  have touches := State.evaluateBands_touches { s with evaluationsAsked := n }
  have still : (State.evaluateBands { s with evaluationsAsked := n }).countOwed = none :=
    (touches .countOwed (by decide)).trans unowed
  have evaluates : s.signing = true →
      exec .bandEvaluation s = .next (State.evaluateBands { s with evaluationsAsked := n }) := by
    intro signing
    have runs := execBandEvaluation_signing released asked signing none
    rw [State.oweCount_none unowed, State.oweCount_none still] at runs
    rw [runs, State.countEvaluated_of_ne (by simp [still])]
  refine ⟨fun quiet => ?dropped, fun signing idle => ⟨_, evaluates signing, ?frame,
    State.evaluateBands_composer (s := { s with evaluationsAsked := n }) signing idle, fun g inside => ?gantry⟩,
    fun signing => ⟨_, evaluates signing, fun k => ?later, _, execBandEvaluation_signing released asked signing (some 0),
      ?counted⟩⟩
  case dropped =>
    refine (State.unlessReset_released released _).trans (congrArg _ ?_)
    rw [State.takeEvaluation_of_asked asked, if_neg (by simp [quiet])]
    exact State.countEvaluated_of_ne (by simp [unowed])
  case frame => exact touches.rebuild
  case gantry =>
    dsimp only
    rw [State.evaluateBands_gantryControl (s := { s with evaluationsAsked := n }) inside]
    have frame := s.evaluateGantry_frame g
    split
    next known =>
      have same : State.evaluateGantry g { s with evaluationsAsked := n } = s.evaluateGantry g := rfl
      rw [same, frame]
      refine ⟨rfl, rfl, rfl, fun beyond => absurd known (Nat.not_lt.mpr beyond), fun _ empty => ?_, fun _ filled => ?_⟩
      · rw [← frame]
        exact State.evaluateGantry_unsupported empty
      · exact State.evaluateGantry_supported filled
    next beyond =>
      exact ⟨rfl, rfl, rfl, fun _ => rfl, fun known => absurd known beyond, fun known => absurd known beyond⟩
  case later =>
    refine (execBandEvaluation_signing released asked signing (some (k + 1))).trans (congrArg _ ?_)
    exact State.countEvaluated_of_ne (by simp [State.oweCount])
  case counted =>
    have counts : ((State.evaluateBands { s with evaluationsAsked := n }).oweCount (some 0)).countEvaluated =
        (State.evaluateBands { s with evaluationsAsked := n }).countClose := by
      rw [State.countEvaluated_of_zero rfl]
      exact congrArg _ (State.oweCount_none still)
    have control : (State.evaluateBands { s with evaluationsAsked := n }).modeControl = s.modeControl :=
      touches .modeControl (by decide)
    have tables : (State.evaluateBands { s with evaluationsAsked := n }).tables = s.tables := touches .tables (by decide)
    have mode : (State.evaluateBands { s with evaluationsAsked := n }).mode = s.mode := congrArg ModeControl.mode control
    rw [counts]
    generalize State.evaluateBands { s with evaluationsAsked := n } = u at control tables mode
    refine ⟨(u.countClose_touches).rebuild, fun active => ?_, fun startup => ?_⟩
    · exact State.countClose_of_other (by simp [mode, active])
    · obtain ⟨goes_on, ends⟩ := State.countClose_startup (mode.trans startup)
      rw [State.par, tables, control] at goes_on ends
      refine ⟨?_, fun short => ?_, fun reached => ?_⟩
      · obtain short | reached := Nat.lt_or_ge (s.modeControl.startupCount + 1) s.tables.par.startupEvaluations
        · rw [goes_on short]
        · obtain ⟨m, -, e⟩ := ends reached
          rw [e]
      · rw [goes_on short]
        exact ⟨startup, rfl⟩
      · obtain ⟨m, above, e⟩ := ends reached
        rw [State.gantryCount, tables] at above
        rw [e]
        exact ⟨rfl, m, rfl, above⟩

end Sys2Proof.Machine
end

section
/-! SUPPORT. Centre Exchange: what fills a request (R160, R161, R184), the order messages of a reply (R185), and the
settling of the end of a centre exchange (R163 to R165). -/

namespace Sys2Proof.Machine

/-! ## What fills a request (R160, R184) -/

/-- A filling within its 4 places and 58 bytes: what is carried takes a place each, and nothing is added once an entry is
carried in part. -/
structure Filling.Fits (u : AlertUnit) (queue : List Report) (f : Filling) : Prop where
  bytes : f.messages.length + f.room = 58
  places : f.notices.length + f.entries.length + (if f.part.isSome then 1 else 0) + f.places ≤ 4
  part : f.part.isSome = true → f.ended = true
  notices : ∀ n ∈ f.notices, n.key ∈ u.notices
  entries : ∀ k ∈ f.entries, ∃ e ∈ queue, e.number = k

section fits
variable {u : AlertUnit} {queue : List Report} {f : Filling}

theorem Filling.start_fits (u : AlertUnit) (queue : List Report) : Filling.start.Fits u queue :=
  ⟨rfl, le_rfl, nofun, nofun, nofun⟩

theorem Filling.not_over (h : ¬ f.over = true) : f.ended = false ∧ 0 < f.places := by
  simpa [Filling.over, Nat.pos_iff_ne_zero] using h

/-- Nothing is carried in part while the filling has not ended. -/
theorem Filling.Fits.part_none (h : f.Fits u queue) (going : f.ended = false) : f.part = none := by
  cases part : f.part with
  | none => rfl
  | some p => exact absurd ((h.part (by rw [part]; rfl)).symm.trans going) nofun

theorem Filling.Fits.stop (h : f.Fits u queue) : Filling.Fits u queue { f with ended := true } :=
  ⟨h.bytes, h.places, fun _ => rfl, h.notices, h.entries⟩

theorem messageOf_length (code : Nat) (body : List Byte) : (messageOf code body).length = body.length + 2 := by
  simp [messageOf]

theorem Filling.add_bytes (h : f.Fits u queue) {message : List Byte} (fits : message.length ≤ f.room) :
    (f.add message).messages.length + (f.add message).room = 58 := by
  have bytes := h.bytes
  show (f.messages ++ message).length + (f.room - message.length) = 58
  rw [List.length_append]
  omega

theorem Filling.addNotice_fits (h : f.Fits u queue) {k : AlertKey} (owed : k ∈ u.notices) :
    (f.addNotice u k).Fits u queue := by
  unfold Filling.addNotice
  split
  · exact h
  next going =>
    obtain ⟨unended, left⟩ := Filling.not_over going
    dsimp only
    split
    next fits =>
      refine ⟨Filling.add_bytes h fits, ?_, h.part, fun n hn => ?_, h.entries⟩
      · have places := h.places
        rw [h.part_none unended] at places
        show (f.notices ++ [_]).length + f.entries.length + (if f.part.isSome then 1 else 0) + (f.places - 1) ≤ 4
        rw [h.part_none unended, List.length_append, List.length_singleton]
        simp only [Option.isSome_none, Bool.false_eq_true, if_false] at places ⊢
        omega
      · obtain before | here := List.mem_append.mp hn
        · exact h.notices n before
        · rw [List.mem_singleton.mp here]
          exact owed
    · exact h.stop

theorem Filling.addEntry_fits (h : f.Fits u queue) {r : Report} (queued : r ∈ queue) :
    (f.addEntry r).Fits u queue := by
  unfold Filling.addEntry
  split
  · exact h
  next going =>
    obtain ⟨unended, left⟩ := Filling.not_over going
    have places := h.places
    rw [h.part_none unended] at places
    simp only [Option.isSome_none, Bool.false_eq_true, if_false] at places
    split
    · exact h.stop
    next room =>
      dsimp only
      have fits : (messageOf r.body.classCode (fragmentHeader r.number r.offset
          (decide (min (r.body.bytes.drop r.offset).length (f.room - fragmentOverhead) = (r.body.bytes.drop r.offset).length)) ++
          (r.body.bytes.drop r.offset).take (min (r.body.bytes.drop r.offset).length (f.room - fragmentOverhead)))).length ≤
          f.room := by
        rw [messageOf_length, List.length_append, List.length_take]
        unfold fragmentOverhead at room ⊢
        have header : ∀ b, (fragmentHeader r.number r.offset b).length = 4 := fun _ => rfl
        rw [header]
        omega
      split
      · refine ⟨Filling.add_bytes h fits, ?_, h.part, h.notices, fun k hk => ?_⟩
        · show f.notices.length + (f.entries ++ [_]).length + (if f.part.isSome then 1 else 0) + (f.places - 1) ≤ 4
          rw [h.part_none unended, List.length_append, List.length_singleton]
          simp only [Option.isSome_none, Bool.false_eq_true, if_false]
          omega
        · obtain before | here := List.mem_append.mp hk
          · exact h.entries k before
          · exact ⟨r, queued, (List.mem_singleton.mp here).symm⟩
      · refine ⟨Filling.add_bytes h fits, ?_, fun _ => rfl, h.notices, h.entries⟩
        show f.notices.length + f.entries.length + 1 + (f.places - 1) ≤ 4
        omega

theorem Filling.addSummary_fits (h : f.Fits u queue) (x : Nat × Option ClosedSummary) : (f.addSummary x).Fits u queue := by
  unfold Filling.addSummary
  split
  · exact h
  · split
    · exact ⟨h.bytes, h.places, h.part, h.notices, h.entries⟩
    · dsimp only
      split
      next fits =>
        refine ⟨Filling.add_bytes h fits, ?_, h.part, h.notices, h.entries⟩
        exact (Nat.add_le_add_left (Nat.sub_le _ _) _).trans h.places
      · exact h.stop

end fits

theorem State.fill_fits (s : State) : s.fill.Fits s.alerts s.centre.queue := by
  have notices : (s.alerts.notices.foldl (Filling.addNotice s.alerts) Filling.start).Fits s.alerts s.centre.queue :=
    List.foldlRecOn _ _ (Filling.start_fits _ _) fun _ h _ owed => Filling.addNotice_fits h owed
  have entries : (s.centre.queue.foldl Filling.addEntry
      (s.alerts.notices.foldl (Filling.addNotice s.alerts) Filling.start)).Fits s.alerts s.centre.queue :=
    List.foldlRecOn _ _ notices fun _ h _ queued => Filling.addEntry_fits h queued
  unfold State.fill
  dsimp only
  split
  · exact entries
  · exact List.foldlRecOn _ _ entries fun _ h x _ => Filling.addSummary_fits h x

/-- Settles O39: the bytes and places of `fill_fits`. -/
theorem centreRequestFits : Obligations.CentreRequestFits := by
  unfold Obligations.CentreRequestFits
  intro s slot
  obtain ⟨bytes, places, -, notices, entries⟩ := s.fill_fits
  refine ⟨?_, Nat.min_le_left _ _, by omega, ⟨_, rfl⟩, ?_, notices, entries⟩
  · show ([_, _] ++ s.fill.messages).length ≤ 60
    rw [List.length_append, List.length_cons, List.length_singleton]
    omega
  · show s.fill.notices.length + s.fill.entries.length + (if s.fill.part.isSome then 1 else 0) ≤ _
    omega

/-! ## Order messages (R184, R185) -/

/-- An order message as a reply carries it (R184). -/
def OrderMessage.bytes (m : OrderMessage) : List Byte := [m.message, m.kind, byteOf m.body.length] ++ m.body

theorem byteOf_toNat {n : Nat} (h : n ≤ 255) : (byteOf n).toNat = n := Nat.mod_eq_of_lt (by omega)

/-- A message written at the front of a run of bytes is read first. -/
theorem readMessages_cons (n : Nat) {m : OrderMessage} (short : m.body.length ≤ 255) (rest : List Byte) :
    readMessages (n + 1) (m.bytes ++ rest) = m :: readMessages n rest := by
  have length := byteOf_toNat short
  show (if (byteOf m.body.length).toNat ≤ (m.body ++ rest).length then
      { message := m.message, kind := m.kind, body := (m.body ++ rest).take (byteOf m.body.length).toNat } ::
        readMessages n ((m.body ++ rest).drop (byteOf m.body.length).toNat)
    else []) = _
  rw [length, if_pos (by simp), List.take_left, List.drop_left]

/-- Settles O40, by induction on the messages. -/
theorem orderMessagesAreRead : Obligations.OrderMessagesAreRead := by
  unfold Obligations.OrderMessagesAreRead
  intro ms rest
  induction ms with
  | nil => exact fun _ => rfl
  | cons m ms ih =>
    intro short
    rw [List.flatMap_cons, List.append_assoc]
    exact (readMessages_cons _ (short m List.mem_cons_self) _).trans
      (congrArg _ (ih fun x hx => short x (List.mem_cons_of_mem _ hx)))

/-! ## A failed end (R163, R165) -/

/-- An end settled with no request waiting for it. -/
theorem State.settleNow_eq {s t : State} (settled : s.settleCentre = t) (building : t.sequencer.building = none)
    (unowed : t.sequencer.choiceOwed = false) : s.settleNow = t := by
  rw [State.settleNow, settled, State.completeBuild, building, State.payChoice, unowed]
  rfl

theorem AlertUnit.notices_prefix_rise (u : AlertUnit) (k : AlertKey) : u.notices <+: (u.rise k).notices := by
  unfold AlertUnit.rise
  split
  · exact List.prefix_rfl
  · obtain same | ⟨more, -⟩ := AlertUnit.owe_notices
      { u with present := insertKey k u.present, latched := insertKey k u.latched } k
    · rw [AlertUnit.settleLine_notices, same]
    · rw [AlertUnit.settleLine_notices, more]
      exact List.prefix_append _ _

/-- The link is lost by this failure (R165). -/
abbrev State.losesLink (s : State) : Prop :=
  s.centre.link = .linked ∧ s.par.centreLossLimit ≤ min 60 (s.centre.failures + 1)


theorem State.settleFailed_of_lost {s : State} (lost : s.losesLink) :
    s.settleFailed = { s with
      centre := { s.centre with
        carried := none, unsettled := none, failures := min 60 (s.centre.failures + 1), link := .lost },
      alerts := s.alerts.rise centreLostKey } := by
  have chosen : (decide (s.centre.link = .linked) &&
      decide (s.par.centreLossLimit ≤ min failureTop (s.centre.failures + 1))) = true :=
    Bool.and_eq_true_iff.mpr ⟨decide_eq_true lost.1, decide_eq_true lost.2⟩
  unfold State.settleFailed
  simp only [chosen, if_true]
  rfl

theorem State.settleFailed_of_kept {s : State} (kept : ¬ s.losesLink) :
    s.settleFailed = { s with
      centre := { s.centre with carried := none, unsettled := none, failures := min 60 (s.centre.failures + 1) } } := by
  have chosen : (decide (s.centre.link = .linked) &&
      decide (s.par.centreLossLimit ≤ min failureTop (s.centre.failures + 1))) = false :=
    Bool.eq_false_iff.mpr fun both =>
      kept ⟨of_decide_eq_true (Bool.and_eq_true_iff.mp both).1, of_decide_eq_true (Bool.and_eq_true_iff.mp both).2⟩
  unfold State.settleFailed
  simp only [chosen, Bool.false_eq_true, if_false]
  rfl

/-- Settles O36: the two cases of `losesLink`. -/
theorem failedCentreExchangeSettles : Obligations.FailedCentreExchangeSettles := by
  unfold Obligations.FailedCentreExchangeSettles
  intro s released failed building unowed
  dsimp only
  have taken : exec .centreExchangeFailed s = .next s.settleNow := by
    show execCentreExchangeFailed s = _
    rw [execCentreExchangeFailed, State.unlessReset_released released, failed]
  have settled : s.settleCentre = s.settleFailed := by rw [State.settleCentre, failed]
  by_cases lost : s.losesLink
  · have after := settled.trans (State.settleFailed_of_lost lost)
    refine ⟨_, taken.trans (congrArg _ (State.settleNow_eq after building unowed)), rfl, ?_, fun _ => rfl,
      fun kept => absurd lost kept, AlertUnit.notices_prefix_rise _ _⟩
    rw [if_pos lost]
  · have after := settled.trans (State.settleFailed_of_kept lost)
    refine ⟨_, taken.trans (congrArg _ (State.settleNow_eq after building unowed)), rfl, ?_, fun held => absurd held lost,
      fun _ => rfl, List.prefix_rfl⟩
    rw [if_neg lost]

/-! ## A received end (R164, R165, R184) -/

/-- The Report Queue once what was carried has left it (R164, R184). -/
def Carried.leaves (c : Carried) (queue : List Report) : List Report :=
  match c.part with
  | none => queue.filter (fun r => decide (r.number ∉ c.entries))
  | some (n, offset) => (queue.filter (fun r => decide (r.number ∉ c.entries))).map
      (fun r => if r.number = n then { r with offset := offset } else r)

/-- With no result waiting, a departure takes the entry and nothing else. -/
theorem State.departReport_of_none_waiting {s : State} (none_waiting : s.waiting = []) (n : Nat) :
    s.departReport n = { s with centre := { s.centre with
      queue := s.centre.queue.filter (fun r => decide (r.number ≠ n)) } } := by
  unfold State.departReport
  split
  · unfold State.offerWaiting
    rw [none_waiting]
    unfold offerFrom
    rw [← none_waiting]
  next absent =>
    have whole : s.centre.queue.filter (fun r => decide (r.number ≠ n)) = s.centre.queue :=
      List.filter_eq_self.mpr fun r queued => decide_eq_true fun same =>
        absent (List.any_eq_true.mpr ⟨r, queued, beq_iff_eq.mpr same⟩)
    rw [whole]

theorem State.departReports_of_none_waiting (ns : List Nat) {s : State} (none_waiting : s.waiting = []) :
    ns.foldl (fun (t : State) n => t.departReport n) s = { s with centre := { s.centre with
      queue := s.centre.queue.filter (fun r => decide (r.number ∉ ns)) } } := by
  induction ns generalizing s with
  | nil => simp
  | cons n ns ih =>
    rw [List.foldl_cons, State.departReport_of_none_waiting none_waiting, ih (by exact none_waiting)]
    simp only [List.filter_filter, List.mem_cons, not_or, ne_eq, Bool.decide_and, Bool.and_comm]

theorem State.departCarried_of_none_waiting {s : State} (none_waiting : s.waiting = []) (c : Carried) :
    s.departCarried c = { s with centre := { s.centre with queue := c.leaves s.centre.queue } } := by
  unfold State.departCarried Carried.leaves
  rw [State.departReports_of_none_waiting _ none_waiting]
  cases c.part <;> rfl

/-- The summary round once a request's summaries are settled (R162, R164). -/
def State.roundAfter (c : Carried) (s : State) : Option Round :=
  match s.centre.round, c.round with
  | some r, some (serial, cursor) =>
    if r.serial = serial then if s.stationCount ≤ cursor then none else some { r with cursor := cursor } else some r
  | round, _ => round

theorem State.moveCursor_eq (c : Carried) (s : State) :
    s.moveCursor c = { s with centre := { s.centre with round := s.roundAfter c } } := by
  have unmoved : ∀ r, s.centre.round = r → s = { s with centre := { s.centre with round := r } } := by
    rintro _ rfl
    rfl
  unfold State.moveCursor State.roundAfter
  cases round : s.centre.round with
  | none => exact unmoved _ round
  | some r =>
    cases c.round with
    | none => exact unmoved _ round
    | some x =>
      dsimp only
      split
      · rfl
      · exact unmoved _ round

theorem State.roundAfter_of_none {c : Carried} (s : State) (h : c.round = none) : s.roundAfter c = s.centre.round := by
  unfold State.roundAfter
  rw [h]
  cases s.centre.round <;> rfl

/-- A reply that states no order is taken without effect. -/
theorem State.takeOrders_of_none {payload : List Byte} (none_stated : byteAt payload 0 = 0) (credit : Nat) (s : State) :
    s.takeOrders credit payload = s := by
  unfold State.takeOrders statedOrders
  rw [none_stated]
  dsimp only
  rw [Nat.min_zero, readMessages]
  · rfl
  · exact nofun

theorem State.relink_eq (s : State) :
    s.relink = { s with
      centre := { s.centre with failures := 0, link := .linked },
      alerts := if s.centre.link = .lost then s.alerts.fall centreLostKey else s.alerts } := by
  unfold State.relink
  dsimp only
  split <;> rfl

/-- A received end without orders, while no result waits. -/
theorem State.settleReceived_of_no_orders {s : State} {c : Carried} {payload : List Byte}
    (carried : s.centre.carried = some c) (none_stated : byteAt payload 0 = 0) (none_waiting : s.waiting = []) :
    s.settleReceived payload = { s with
      centre := { s.centre with
        carried := none, unsettled := none, failures := 0, link := .linked, queue := c.leaves s.centre.queue,
        round := s.roundAfter c },
      alerts := (if s.centre.link = .lost then s.alerts.fall centreLostKey else s.alerts).deliver c.notices } := by
  unfold State.settleReceived
  dsimp only
  rw [carried, Option.getD_some, State.takeOrders_of_none none_stated, State.relink_eq,
    State.departCarried_of_none_waiting, State.moveCursor_eq]
  · rfl
  · exact none_waiting

theorem AlertUnit.mem_deliver {u : AlertUnit} {carried : List CarriedNotice} {k : AlertKey} :
    k ∈ (u.deliver carried).notices ↔ k ∈ u.notices ∧
      ¬ ∃ n ∈ carried, n.key = k ∧ n.present = u.present.contains k ∧ n.latched = u.latched.contains k := by
  have settled : (carried.any (fun n => decide (n.key = k) && u.settles n)) = true ↔
      ∃ n ∈ carried, n.key = k ∧ n.present = u.present.contains k ∧ n.latched = u.latched.contains k := by
    simp only [List.any_eq_true, AlertUnit.settles, Bool.and_eq_true, decide_eq_true_eq, beq_iff_eq]
    constructor
    · rintro ⟨n, there, rfl, present, latched⟩
      exact ⟨n, there, rfl, present.symm, latched.symm⟩
    · rintro ⟨n, there, rfl, present, latched⟩
      exact ⟨n, there, rfl, present.symm, latched.symm⟩
  rw [← settled]
  exact List.mem_filter.trans (and_congr_right fun _ => Bool.not_eq_true' _ ▸ Bool.eq_false_iff)

/-- Settles O37: the equation of `settleReceived_of_no_orders`, read item by item. -/
theorem receivedCentreExchangeSettles : Obligations.ReceivedCentreExchangeSettles := by
  unfold Obligations.ReceivedCentreExchangeSettles
  intro s c payload released received carried none_stated building unowed none_waiting wf
  have taken : exec .centreExchangeReceived s = .next s.settleNow := by
    show execCentreExchangeReceived s = _
    rw [execCentreExchangeReceived, State.unlessReset_released released, received]
  have settled : s.settleCentre = s.settleReceived payload := by rw [State.settleCentre, received]
  have after := settled.trans (State.settleReceived_of_no_orders carried none_stated none_waiting)
  refine ⟨_, taken.trans (congrArg _ (State.settleNow_eq after building unowed)), rfl, rfl, rfl, rfl, rfl, rfl,
    fun whole => ?_, fun n o part => ?_, fun linked => ?_, fun lost => ?_, s.roundAfter_of_none, fun r cursor round moved => ?_,
    fun r k cursor round moved other => ?_⟩
  · show c.leaves s.centre.queue = _
    rw [Carried.leaves, whole]
  · show c.leaves s.centre.queue = _
    rw [Carried.leaves, part]
  · have kept : (if s.centre.link = .lost then s.alerts.fall centreLostKey else s.alerts) = s.alerts :=
      if_neg (by rw [linked]; decide)
    show (AlertUnit.deliver _ (if _ then _ else _)) = _ ∧ _
    rw [kept]
    exact ⟨rfl, fun k => AlertUnit.mem_deliver⟩
  · show centreLostKey ∉ (AlertUnit.deliver _ (if _ then _ else _)).present ∧ _
    rw [if_pos lost]
    exact ⟨AlertUnit.not_mem_fall_present _ _ wf.2.1, AlertUnit.fall_latched _ _⟩
  · show s.roundAfter c = _
    rw [State.roundAfter, round, moved]
    exact if_pos rfl
  · show s.roundAfter c = _
    rw [State.roundAfter, round, moved]
    exact if_neg other.symm


end Sys2Proof.Machine
end

section
/-! SUPPORT. The orders of a reply: how their forms name their kinds (R185), what an order leaves of the Report Queue
(R169), and the one response to each (R166, R168). -/

namespace Sys2Proof.Machine

/-! ## The kind an order is read under (R185) -/

/-- The kind of each order of the order set. -/
def Order.kind : Order → OrderKind
  | .modeRun | .modeStandby => .modeOrder
  | .tableLoad .. => .tableLoad
  | .tableCheck => .tableCheck
  | .restart => .restart
  | .laneClose .. => .laneClose
  | .carriagewayClose .. => .carriagewayClose
  | .shoulderOpen .. => .shoulderOpen
  | .orderClear .. => .orderClear
  | .limitSet .. => .limitSet
  | .laneHealthClear .. => .laneHealthClear
  | .inject .. => .inject
  | .pathForce .. => .pathForce
  | .pathMode .. => .pathModeOrder
  | .counterReset => .counterReset
  | .query .. => .query
  | .alertAck .. => .alertAck
  | .alertMask .. => .alertMask

/-- An order of this form stands under its own kind, whose code is `code`. -/
def OrderForm.Names (code : Nat) : OrderForm → Prop
  | .order kind o => kind = o.kind ∧ kind.code.toNat = code
  | .refuse _ | .badSubject => True

theorem withLength_names {code : Nat} {form : OrderForm} (h : form.Names code) (kind : OrderKind) (n : Nat)
    (b : List Byte) : (withLength kind n b form).Names code := by
  unfold withLength
  split
  · exact h
  · exact trivial

theorem readTableLoad_names (b : List Byte) : (readTableLoad b).Names 2 := by
  unfold readTableLoad
  split
  · exact trivial
  · split
    · exact ⟨rfl, rfl⟩
    · split
      · exact ⟨rfl, rfl⟩
      · exact trivial

theorem readQuery_names (subject number : Nat) : (readQuery subject number).Names 15 := by
  unfold readQuery
  split
  case h_7 => exact trivial
  all_goals exact ⟨rfl, rfl⟩

theorem readAck_names (scope kind a b : Nat) : (readAck scope kind a b).Names 16 := by
  unfold readAck
  split
  · split
    · exact ⟨rfl, rfl⟩
    · exact trivial
  · exact ⟨rfl, rfl⟩
  · exact ⟨rfl, rfl⟩
  · exact trivial

/-- Every order read stands under its kind, and its message under that kind's code. -/
theorem readOrder_names (m : OrderMessage) : (readOrder m).Names m.kind.toNat := by
  unfold readOrder
  dsimp only
  split
  case h_1 code =>
    rw [code]
    refine withLength_names ?_ _ _ _
    split
    · exact ⟨rfl, rfl⟩
    · exact ⟨rfl, rfl⟩
    · exact trivial
  case h_2 code => exact code ▸ readTableLoad_names _
  case h_9 code =>
    rw [code]
    refine withLength_names ?_ _ _ _
    split
    · exact ⟨rfl, rfl⟩
    · exact trivial
  case h_13 code =>
    rw [code]
    refine withLength_names ?_ _ _ _
    split
    · exact ⟨rfl, rfl⟩
    · exact ⟨rfl, rfl⟩
    · exact trivial
  case h_15 code => exact code ▸ withLength_names (readQuery_names _ _) _ _ _
  case h_16 code => exact code ▸ withLength_names (readAck_names _ _ _ _) _ _ _
  case h_17 code =>
    rw [code]
    refine withLength_names ?_ _ _ _
    split
    · exact ⟨rfl, rfl⟩
    · exact ⟨rfl, rfl⟩
    · exact trivial
  case h_18 => exact trivial
  all_goals
    next code =>
      rw [code]
      exact withLength_names (by exact ⟨rfl, rfl⟩) _ _ _

theorem readOrder_restart_of_empty {m : OrderMessage} (code : m.kind = 4) (empty : m.body = []) :
    readOrder m = .order .restart .restart := by
  unfold readOrder
  rw [code, empty]
  rfl

theorem empty_of_readOrder_restart {m : OrderMessage} {kind : OrderKind} (read : readOrder m = .order kind .restart) :
    m.kind = 4 ∧ m.body = [] := by
  have names := readOrder_names m
  rw [read] at names
  obtain ⟨rfl, code⟩ := names
  have four : m.kind = 4 := BitVec.eq_of_toNat_eq code.symm
  refine ⟨four, ?_⟩
  unfold readOrder at read
  rw [four] at read
  by_contra some_body
  exact nomatch (if_neg fun short => some_body (List.length_eq_zero_iff.mp short)).symm.trans read

/-! ## What an order leaves of the Report Queue (R28, R169) -/

theorem State.restart_centre (s : State) : s.restart.1.centre = { s.centre with queue := [], round := none } := by
  have cleared : s.restartCleared.centre = { s.centre with queue := [], round := none } :=
    State.reportAgain_touches _ .centre (by decide)
  rw [State.restart_eq]
  split
  · exact (State.enterStandby_touches _ .centre (by decide)).trans cleared
  · exact cleared

theorem State.carryOut_queue (o : Order) (s : State) :
    (s.carryOut o).1.centre.queue = (if o = .restart then [] else s.centre.queue) ∧
      (s.carryOut o).1.centre.nextReport = s.centre.nextReport := by
  have kept {t : State} (same : t.centre = s.centre) (other : o ≠ .restart) :
      t.centre.queue = (if o = .restart then [] else s.centre.queue) ∧ t.centre.nextReport = s.centre.nextReport := by
    rw [same, if_neg other]
    exact ⟨rfl, rfl⟩
  cases o with
  | tableLoad a b c r =>
    rw [if_neg nofun]
    show (s.tableLoad a b c r).1.centre.queue = _ ∧ (s.tableLoad a b c r).1.centre.nextReport = _
    unfold State.tableLoad
    split
    · exact ⟨rfl, rfl⟩
    · split
      · exact ⟨rfl, rfl⟩
      · dsimp only
        split
        · show (State.lowerTableBound _).centre.queue = _ ∧ (State.lowerTableBound _).centre.nextReport = _
          rw [State.lowerTableBound_touches _ .centre (by decide)]
          exact ⟨rfl, rfl⟩
        · exact ⟨rfl, rfl⟩
  | restart =>
    show s.restart.1.centre.queue = _ ∧ s.restart.1.centre.nextReport = _
    rw [s.restart_centre, if_pos rfl]
    exact ⟨rfl, rfl⟩
  | modeRun => exact kept (s.modeRun_touches .centre (by decide)) nofun
  | modeStandby => exact kept (s.modeStandby_touches .centre (by decide)) nofun
  | tableCheck => exact kept (s.tableCheck_touches .centre (by decide)) nofun
  | laneClose => exact kept (s.closeRoad_touches _ _ _ _ .centre (by decide)) nofun
  | carriagewayClose => exact kept (s.closeRoad_touches _ _ _ _ .centre (by decide)) nofun
  | shoulderOpen => exact kept (s.shoulderOpen_touches _ _ _ _ .centre (by decide)) nofun
  | orderClear => exact kept (s.orderClear_touches _ .centre (by decide)) nofun
  | limitSet => exact kept (s.limitSet_touches _ _ _ _ _ .centre (by decide)) nofun
  | laneHealthClear => exact kept (s.laneHealthClear_touches _ _ .centre (by decide)) nofun
  | inject => exact kept (s.inject_touches _ _ _ _ .centre (by decide)) nofun
  | pathForce => exact kept (s.pathForce_touches _ .centre (by decide)) nofun
  | pathMode => exact kept (s.pathModeOrder_touches _ .centre (by decide)) nofun
  | counterReset => exact kept (s.counterReset_touches .centre (by decide)) nofun
  | query => exact kept rfl nofun
  | alertAck => exact kept (s.alertAck_touches _ .centre (by decide)) nofun
  | alertMask => exact kept (s.alertMask_touches _ _ .centre (by decide)) nofun

/-! ## The answers to orders (R166, R168) -/

theorem State.query_answer {s : State} {q : QuerySubject} {items : List Byte} (h : (s.query q).items = some items) :
    (s.query q).verdict = .accepted := by
  have split_answer {c : Prop} [Decidable c] {xs : List Byte} {r : Reason}
      (h : (if c then queried xs else refused r).items = some items) :
      (if c then queried xs else refused r).verdict = .accepted := by
    by_cases held : c
    · rw [if_pos held]
      rfl
    · rw [if_neg held] at h
      exact nomatch h
  cases q with
  | gantry n => exact split_answer h
  | station n => exact split_answer h
  | orders | counters | capture | paths => rfl

theorem State.modeRun_items (s : State) : (s.modeRun).2.items = none := by
  unfold State.modeRun
  repeat' split
  all_goals rfl

theorem State.modeStandby_items (s : State) : (s.modeStandby).2.items = none := by
  unfold State.modeStandby
  repeat' split
  all_goals rfl

theorem State.tableLoad_items (sect length first : Nat) (records : List (List Byte)) (s : State) : (s.tableLoad sect length first records).2.items = none := by
  unfold State.tableLoad
  repeat' split
  all_goals rfl

theorem State.tableCheck_items (s : State) : (s.tableCheck).2.items = none := by
  unfold State.tableCheck
  repeat' split
  all_goals rfl

theorem State.closeRoad_items (id site : Nat) (lanes : Option (List Nat)) (cap : Nat) (s : State) : (s.closeRoad id site lanes cap).2.items = none := by
  unfold State.closeRoad
  dsimp only
  repeat' split
  all_goals rfl

theorem State.shoulderOpen_items (id first last : Nat) (attested : Bool) (s : State) : (s.shoulderOpen id first last attested).2.items = none := by
  unfold State.shoulderOpen
  repeat' split
  all_goals rfl

theorem State.clearShoulder_items (c : Closure) (o : ShoulderOrder) (s : State) : (s.clearShoulder c o).2.items = none := by
  unfold State.clearShoulder
  repeat' split
  all_goals rfl

theorem State.clearLimit_items (id : Nat) (s : State) : (s.clearLimit id).2.items = none := by
  unfold State.clearLimit
  repeat' split
  all_goals rfl

theorem State.orderClear_items (id : Nat) (s : State) : (s.orderClear id).2.items = none := by
  unfold State.orderClear
  split
  · split
    · rfl
    · exact s.clearShoulder_items _ _
  · exact s.clearLimit_items id

theorem State.limitSet_items (id first last cap : Nat) (legend : Option Legend) (s : State) : (s.limitSet id first last cap legend).2.items = none := by
  unfold State.limitSet
  repeat' split
  all_goals rfl

theorem State.laneHealthClear_items (station lane : Nat) (s : State) : (s.laneHealthClear station lane).2.items = none := by
  unfold State.laneHealthClear
  repeat' split
  all_goals rfl

theorem State.inject_items (station lane : Nat) (values : LaneValues) (length : Nat) (s : State) : (s.inject station lane values length).2.items = none := by
  unfold State.inject
  repeat' split
  all_goals rfl

theorem State.pathForce_items (n : Nat) (s : State) : (s.pathForce n).2.items = none := by
  unfold State.pathForce
  repeat' split
  all_goals rfl

/-- Only a query's answer has items. -/
theorem State.carryOut_items {o : Order} (other : ∀ q, o ≠ .query q) (s : State) : (s.carryOut o).2.items = none := by
  cases o with
  | modeRun => exact s.modeRun_items
  | modeStandby => exact s.modeStandby_items
  | tableLoad => exact s.tableLoad_items _ _ _ _
  | tableCheck => exact s.tableCheck_items
  | laneClose => exact s.closeRoad_items _ _ _ _
  | carriagewayClose => exact s.closeRoad_items _ _ _ _
  | shoulderOpen => exact s.shoulderOpen_items _ _ _ _
  | orderClear => exact s.orderClear_items _
  | limitSet => exact s.limitSet_items _ _ _ _ _
  | laneHealthClear => exact s.laneHealthClear_items _ _
  | inject => exact s.inject_items _ _ _ _
  | pathForce => exact s.pathForce_items _
  | restart | pathMode | counterReset | alertAck | alertMask => rfl
  | query q => exact absurd rfl (other q)

/-! ## One response to each order (R166, R168, R169) -/

theorem State.offerReport_of_room {body : ReportBody} {s : State} (room : s.centre.queue.length < body.room) :
    (s.offerReport body).centre.queue = s.centre.queue ++ [{ number := s.centre.nextReport, body := body, offset := 0 }] ∧
      (s.offerReport body).centre.nextReport = (s.centre.nextReport + 1) % 65536 := by
  rcases s.offerReport_cases body with ⟨-, queue, next⟩ | ⟨full, -⟩
  · exact ⟨queue, next⟩
  · exact absurd room (Nat.not_lt.mpr full)

theorem responseBody_room (message : Byte) (kind : OrderKind) (a : Answer) (mode : Mode) :
    (responseBody message kind a mode).room = 48 := by
  unfold responseBody
  dsimp only
  split <;> rfl

/-- An answered order: the state it leaves its queue in, the form it was read in, and the items it may bear. -/
theorem State.answerOrder_spec (m : OrderMessage) (s : State) :
    (s.answerOrder m).2.1.centre.queue = (if m.kind = 4 ∧ m.body = [] then [] else s.centre.queue) ∧
      (s.answerOrder m).2.1.centre.nextReport = s.centre.nextReport ∧
      (readOrder m = .refuse (s.answerOrder m).1 ∨ (∃ o, readOrder m = .order (s.answerOrder m).1 o) ∨
        (readOrder m = .badSubject ∧ (s.answerOrder m).1 = .alertAck)) ∧
      ∀ items, (s.answerOrder m).2.2.items = some items →
        (s.answerOrder m).1 = .query ∧ (s.answerOrder m).2.2.verdict = .accepted := by
  have kept (other : ∀ k, readOrder m ≠ .order k .restart) :
      s.centre.queue = if m.kind = 4 ∧ m.body = [] then [] else s.centre.queue :=
    (if_neg fun ⟨code, empty⟩ => other _ (readOrder_restart_of_empty code empty)).symm
  have names := readOrder_names m
  unfold State.answerOrder
  split
  next kind o read =>
    obtain ⟨queue, next⟩ := s.carryOut_queue o
    rw [read] at names
    obtain ⟨rfl, -⟩ := names
    refine ⟨queue.trans ?_, next, .inr (.inl ⟨o, read⟩), fun items answered => ?_⟩
    · by_cases restart : o = .restart
      · subst restart
        rw [if_pos rfl, if_pos (empty_of_readOrder_restart read)]
      · rw [if_neg restart]
        refine kept fun k again => restart ?_
        rw [read] at again
        injection again
    · cases o with
      | query q => exact ⟨rfl, State.query_answer answered⟩
      | _ => exact nomatch (s.carryOut_items (by exact nofun)).symm.trans answered
  next kind read => exact ⟨kept (fun k => by rw [read]; exact nofun), rfl, .inl read, nofun⟩
  next read => exact ⟨kept (fun k => by rw [read]; exact nofun), rfl, .inr (.inr ⟨read, rfl⟩), nofun⟩

/-- Settles O38: the answered order of `answerOrder_spec`, and the room its response finds. -/
theorem eachOrderHasOneResponse : Obligations.EachOrderHasOneResponse := by
  unfold Obligations.EachOrderHasOneResponse
  intro s m short
  obtain ⟨queue, next, form, items⟩ := s.answerOrder_spec m
  have room : (s.answerOrder m).2.1.centre.queue.length <
      (responseBody m.message (s.answerOrder m).1 (s.answerOrder m).2.2 (s.answerOrder m).2.1.mode).room := by
    rw [responseBody_room, queue]
    split
    · exact Nat.succ_pos _
    · exact short
  obtain ⟨joined, numbered⟩ := State.offerReport_of_room room
  rw [queue, next] at joined
  rw [next] at numbered
  have mode : (s.takeOrder m).mode = (s.answerOrder m).2.1.mode :=
    congrArg ModeControl.mode (State.offerReport_touches _ _ .modeControl (by decide))
  refine ⟨_, _, joined, numbered, form, ?_⟩
  rw [mode]
  unfold responseBody
  dsimp only
  split
  next xs some_items =>
    obtain ⟨query, accepted⟩ := items xs some_items
    exact .inr ⟨_, xs, rfl, rfl, query, accepted, rfl⟩
  · exact .inl ⟨_, rfl, rfl, rfl, rfl⟩

end Sys2Proof.Machine
end

section
/-! SUPPORT. TABLE LOAD: what a loaded section holds and what an accepted load has read (R3, R4), and the return to
UNCONFIGURED it brings in STANDBY (R23, R24). -/

namespace Sys2Proof.Machine

/-! ## A section written (R4) -/

theorem writeFrom_getElem? {α : Type} (i : Nat) (records : List α) (places : List (Option α)) (k : Nat)
    (fits : i + records.length ≤ places.length) :
    (writeFrom i records places)[k]? =
      if i ≤ k ∧ k < i + records.length then some records[k - i]? else places[k]? := by
  suffices h : ∀ n, i + n ≤ places.length →
      ((List.range n).foldl (fun ps j => ps.set (i + j) records[j]?) places)[k]? =
        if i ≤ k ∧ k < i + n then some records[k - i]? else places[k]? from h _ fits
  intro n
  induction n with
  | zero => exact fun _ => (if_neg (by omega)).symm
  | succ n ih =>
    intro room
    have before := ih (by omega)
    have length : ∀ (js : List Nat) (ps : List (Option α)),
        (js.foldl (fun ps j => ps.set (i + j) records[j]?) ps).length = ps.length := by
      intro js
      induction js with
      | nil => exact fun _ => rfl
      | cons j js ih => exact fun ps => (ih _).trans List.length_set
    rw [List.range_succ, List.foldl_append, List.foldl_cons, List.foldl_nil]
    by_cases here : i + n = k
    · subst here
      rw [List.getElem?_set_self (by rw [length]; omega), if_pos (by omega), Nat.add_sub_cancel_left]
    · rw [List.getElem?_set_ne here, before]
      exact if_congr (by omega) rfl rfl

theorem loadSection_getElem? {α : Type} {length first : Nat} {rs : List α} (places : List (Option α)) (i : Nat)
    (fits : first + rs.length ≤ length) :
    (loadSection length first rs places)[i]? =
      if first ≤ i ∧ i < first + rs.length then some (rs[i - first]?)
      else if places.length = length then places[i]? else if i < length then some none else none := by
  unfold loadSection
  split
  next same => rw [writeFrom_getElem? _ _ _ _ (by omega)]
  · rw [writeFrom_getElem? _ _ _ _ (by rw [List.length_replicate]; omega), List.getElem?_replicate]

/-! ## An accepted load (R3, R4) -/

theorem readRecords_length {α : Type} {read : List Byte → α ⊕ Nat} {i : Nat} {bytes : List (List Byte)} {rs : List α}
    (h : readRecords read i bytes = .inl rs) : rs.length = bytes.length := by
  induction bytes generalizing i rs with
  | nil =>
    cases h
    rfl
  | cons b bytes ih =>
    unfold readRecords at h
    split at h
    · cases h
    · split at h
      next hrs =>
        cases h
        rw [List.length_cons, List.length_cons, ih hrs]
      · cases h

/-- What an accepted load has checked, and the section it has written. -/
theorem Tables.load_inl {t t' : Tables} {sect length first : Nat} {records : List (List Byte)}
    (h : t.load sect length first records = .inl t') :
    first + records.length ≤ length ∧
    ((sect = 1 ∧ length = 1 ∧ ∃ rs, readRecords readParams first records = .inl rs ∧ rs.length = records.length ∧
        t' = { t with params := loadSection length first rs t.params }) ∨
     (sect = 2 ∧ 1 ≤ length ∧ length ≤ 48 ∧ ∃ rs, readRecords readStation first records = .inl rs ∧
        rs.length = records.length ∧ t' = { t with stations := loadSection length first rs t.stations }) ∨
     (sect = 3 ∧ 1 ≤ length ∧ length ≤ 32 ∧ ∃ rs, readRecords readGantry first records = .inl rs ∧
        rs.length = records.length ∧ t' = { t with gantries := loadSection length first rs t.gantries }) ∨
     (sect = 4 ∧ 1 ≤ length ∧ length ≤ 6 ∧ ∃ rs, readRecords readBand first records = .inl rs ∧
        rs.length = records.length ∧ t' = { t with bands := loadSection length first rs t.bands }) ∨
     (sect = 5 ∧ 1 ≤ length ∧ length ≤ 128 ∧ ∃ rs, readRecords readSlot first records = .inl rs ∧
        rs.length = records.length ∧ t' = { t with cycle := loadSection length first rs t.cycle })) := by
  unfold Tables.load at h
  dsimp only at h
  split at h
  · cases h
  next known =>
  split at h
  · cases h
  next range =>
  split at h
  · cases h
  next index =>
  simp only [Bool.not_eq_true', Bool.not_eq_false] at range known
  refine ⟨by omega, ?_⟩
  split at h
  · split at h
    next rs hrs =>
      cases h
      exact .inl ⟨rfl, of_decide_eq_true range, rs, hrs, readRecords_length hrs, rfl⟩
    · cases h
  · split at h
    next rs hrs =>
      cases h
      obtain ⟨low, high⟩ := inRange_iff.mp range
      exact .inr (.inl ⟨rfl, low, high, rs, hrs, readRecords_length hrs, rfl⟩)
    · cases h
  · split at h
    next rs hrs =>
      cases h
      obtain ⟨low, high⟩ := inRange_iff.mp range
      exact .inr (.inr (.inl ⟨rfl, low, high, rs, hrs, readRecords_length hrs, rfl⟩))
    · cases h
  · split at h
    next rs hrs =>
      cases h
      obtain ⟨low, high⟩ := inRange_iff.mp range
      exact .inr (.inr (.inr (.inl ⟨rfl, low, high, rs, hrs, readRecords_length hrs, rfl⟩)))
    · cases h
  next _ n1 n2 n3 n4 =>
    have five : sect = 5 := by
      have others : sect ≠ 1 ∧ sect ≠ 2 ∧ sect ≠ 3 ∧ sect ≠ 4 := ⟨n1, n2, n3, n4⟩
      have := inRange_iff.mp known
      omega
    subst five
    split at h
    next rs hrs =>
      cases h
      obtain ⟨low, high⟩ := inRange_iff.mp range
      exact .inr (.inr (.inr (.inr ⟨rfl, low, high, rs, hrs, readRecords_length hrs, rfl⟩)))
    · cases h

/-! ## The return to UNCONFIGURED (R23, R24) -/

theorem lower_foldl_latched (ks : List AlertKey) (s : State) :
    (ks.foldl (fun (s : State) k => s.lower k) s).alerts.latched = s.alerts.latched := by
  induction ks generalizing s with
  | nil => rfl
  | cons k ks ih => exact (ih _).trans (AlertUnit.fall_latched _ _)

/-- What a return to UNCONFIGURED empties and what it keeps. -/
theorem State.returnToUnconfigured_spec (s : State) :
    s.returnToUnconfigured.mode = .unconfigured ∧ s.returnToUnconfigured.tables = s.tables ∧
      s.returnToUnconfigured.modeControl.tableChecked = s.modeControl.tableChecked ∧
      s.returnToUnconfigured.limitOrders = [] ∧ s.returnToUnconfigured.closures.register = [] ∧
      s.returnToUnconfigured.waiting = [] ∧ s.returnToUnconfigured.centre.queue = s.centre.queue ∧
      s.returnToUnconfigured.alerts.latched = s.alerts.latched := by
  let emptied := ((((s.setMode .unconfigured).emptyRecords).resetSpeed).resetClosures).resetComposer
  have alertsOnly := State.lowerTableBound_touches emptied
  refine ⟨?_, ?_, ?_, ?_, ?_, ?_, ?_, ?_⟩
  · exact congrArg ModeControl.mode (alertsOnly .modeControl (by decide))
  · exact alertsOnly .tables (by decide)
  · exact (congrArg ModeControl.tableChecked (alertsOnly .modeControl (by decide))).trans rfl
  · exact alertsOnly .limitOrders (by decide)
  · exact congrArg ClosureUnit.register (alertsOnly .closures (by decide))
  · exact alertsOnly .waiting (by decide)
  · exact (congrArg Centre.queue (alertsOnly .centre (by decide))).trans rfl
  · exact lower_foldl_latched _ emptied

/-- Settles O43: the branches of TABLE LOAD, `loadSection_getElem?` and `Tables.load_inl`. -/
theorem tableLoadWritesTheSection : Obligations.TableLoadWritesTheSection := by
  unfold Obligations.TableLoadWritesTheSection
  refine ⟨fun s sect length first records => ⟨fun signing => ?_, fun quiet i item failed => ?_,
    fun unconfigured t loaded => ?_, fun standby t loaded => ?_⟩,
    fun α length first rs places i fits => ⟨loadSection_length _ _ _ _, loadSection_getElem? places i fits⟩,
    fun _ _ _ _ _ _ => Tables.load_inl⟩
  · exact if_pos (decide_eq_true signing)
  · show s.tableLoad sect length first records = _
    unfold State.tableLoad
    rw [if_neg (by rw [State.signing_eq_false quiet]; nofun), failed]
  · show s.tableLoad sect length first records = _
    unfold State.tableLoad
    rw [if_neg (by rw [State.signing_eq_false (.inl unconfigured)]; nofun), loaded]
    dsimp only
    rw [if_neg (by rw [unconfigured]; nofun)]
  · have result : s.carryOut (.tableLoad sect length first records) =
        (State.returnToUnconfigured { s with
          tables := t, modeControl := { s.modeControl with tableChecked := false } }, accepted) := by
      show s.tableLoad sect length first records = _
      unfold State.tableLoad
      rw [if_neg (by rw [State.signing_eq_false (.inr standby)]; nofun), loaded]
      dsimp only
      rw [if_pos standby]
    rw [result]
    exact ⟨rfl, State.returnToUnconfigured_spec _⟩

end Sys2Proof.Machine
end

section
/-! SUPPORT. RESTART: the conditions reported again, and what the order keeps and clears (R28, R29, R178). -/

namespace Sys2Proof.Machine

/-! ## Rises reported one after another (R173, R178) -/

theorem AlertUnit.mem_rises_present (ks : List AlertKey) (u : AlertUnit) (x : AlertKey) :
    x ∈ (ks.foldl (fun v k => AlertUnit.rise k v) u).present ↔ x ∈ ks ∨ x ∈ u.present := by
  induction ks generalizing u with
  | nil => simp
  | cons k ks ih => rw [List.foldl_cons, ih, AlertUnit.mem_rise_present, List.mem_cons, ← or_assoc, or_comm (a := x ∈ ks)]

/-- Rises from entries that are latched exactly while present leave them so. -/
theorem AlertUnit.rises_latched (ks : List AlertKey) {u : AlertUnit} (same : u.latched = u.present) :
    (ks.foldl (fun v k => AlertUnit.rise k v) u).latched = (ks.foldl (fun v k => AlertUnit.rise k v) u).present := by
  induction ks generalizing u with
  | nil => exact same
  | cons k ks ih =>
    refine ih (u := u.rise k) ?_
    unfold AlertUnit.rise
    split
    · exact same
    · simp [same]

theorem AlertUnit.rises_masked (ks : List AlertKey) (u : AlertUnit) :
    (ks.foldl (fun v k => AlertUnit.rise k v) u).masked = u.masked := by
  induction ks generalizing u with
  | nil => rfl
  | cons k ks ih => exact (ih _).trans (AlertUnit.rise_masked _ _)

/-! ## The conditions that stand (R178) -/

/-- The link conditions that stand (R47). -/
def State.standingLinks (s : State) : List AlertKey :=
  ([Path.one, .two].filter (fun p => s.link.down.get p)).map downKey ++ (if s.link.cpd then [disturbedKey] else []) ++
    (if s.link.counters.full then [countPeriodKey] else [])

/-- The sign faults that stand (R154). -/
def State.standingSigns (s : State) : List AlertKey :=
  ((List.range Config.maxGantries).filter (fun g => (s.deliveryRec g).signFault)).map (alertKey .signFault ·)

/-- The conditions whose owners survive a RESTART, in the order of R178. -/
def State.standing (s : State) : List AlertKey :=
  s.standingLinks ++ s.standingSigns ++ (if s.centre.link = .lost then [centreLostKey] else [])

theorem State.reportAgain_eq (s : State) :
    s.reportAgain = { s with alerts := s.standing.foldl (fun v k => AlertUnit.rise k v) s.alerts } := by
  show (if s.centre.link = .lost then
      ((s.reportAll [] s.standingLinks).reportAll [] s.standingSigns).raise centreLostKey
    else (s.reportAll [] s.standingLinks).reportAll [] s.standingSigns) = _
  unfold State.standing
  rw [State.reportAll_alerts, State.reportAll_alerts, List.foldl_append, List.foldl_append]
  split <;> rfl

theorem DeliveryRec.signFault_iff {r : DeliveryRec} : r.signFault = true ↔ r.state = .failed ∨ r.failedLanes ≠ [] := by
  simp [DeliveryRec.signFault]

theorem State.mem_standing {s : State} {k : AlertKey} :
    k ∈ s.standing ↔ (∃ p, k = downKey p ∧ s.link.down.get p = true) ∨ (k = disturbedKey ∧ s.link.cpd = true) ∨
      (k = countPeriodKey ∧ 65535 ≤ s.link.counters.exchanges) ∨
      (∃ g < 32, k = alertKey .signFault g ∧ ((s.deliveryRec g).state = .failed ∨ (s.deliveryRec g).failedLanes ≠ [])) ∨
      (k = centreLostKey ∧ s.centre.link = .lost) := by
  have chosen {c : Prop} [Decidable c] {x : AlertKey} : k ∈ (if c then [x] else []) ↔ k = x ∧ c := by
    split <;> simp [*]
  have down : k ∈ ([Path.one, .two].filter (fun p => s.link.down.get p)).map downKey ↔
      ∃ p, k = downKey p ∧ s.link.down.get p = true := by
    rw [List.mem_map]
    constructor
    · rintro ⟨p, there, rfl⟩
      exact ⟨p, rfl, (List.mem_filter.mp there).2⟩
    · rintro ⟨p, rfl, held⟩
      exact ⟨p, List.mem_filter.mpr ⟨by cases p <;> decide, held⟩, rfl⟩
  have signs : k ∈ s.standingSigns ↔
      ∃ g < 32, k = alertKey .signFault g ∧ ((s.deliveryRec g).state = .failed ∨ (s.deliveryRec g).failedLanes ≠ []) := by
    unfold State.standingSigns
    rw [List.mem_map]
    constructor
    · rintro ⟨g, there, rfl⟩
      obtain ⟨low, faulty⟩ := List.mem_filter.mp there
      exact ⟨g, List.mem_range.mp low, rfl, DeliveryRec.signFault_iff.mp faulty⟩
    · rintro ⟨g, low, rfl, faulty⟩
      exact ⟨g, List.mem_filter.mpr ⟨List.mem_range.mpr low, DeliveryRec.signFault_iff.mpr faulty⟩, rfl⟩
  have full : s.link.counters.full = true ↔ 65535 ≤ s.link.counters.exchanges := decide_eq_true_iff
  unfold State.standing State.standingLinks
  rw [List.mem_append, List.mem_append, List.mem_append, List.mem_append, down, signs, chosen, chosen, chosen, full]
  simp only [or_assoc]

/-! ## What a RESTART clears, but for the entry to STANDBY (R28, R29) -/

/-- The state whose standing conditions a RESTART reports. -/
def State.restartEmptied (s : State) : State :=
  (((((((s.restartMode).emptyRecords).resetSpeed).resetClosures).clearDemands).overtake .judgeOnly).clearReports
    ).clearAlerts

theorem State.restartCleared_eq (s : State) : s.restartCleared = { s.restartEmptied with
    alerts := s.restartEmptied.standing.foldl (fun v k => AlertUnit.rise k v) .reset } :=
  State.reportAgain_eq s.restartEmptied

theorem State.restartEmptied_deliveryRec (s : State) (g : Nat) :
    s.restartEmptied.deliveryRec g = { s.deliveryRec g with demanded := none } :=
  State.clearDemands_deliveryRec _ g

theorem State.mem_restartEmptied_standing {s : State} {k : AlertKey} : k ∈ s.restartEmptied.standing ↔ k ∈ s.standing := by
  rw [State.mem_standing, State.mem_standing]
  simp only [State.restartEmptied_deliveryRec]
  rfl

/-- The end of a RESTART: nothing, or the entry to STANDBY and its choice of a request. -/
theorem State.restart_ends (s : State) :
    (s.modeControl.tableChecked = true ∧ s.restart.1 = s.restartCleared.enterStandby) ∨
      (s.modeControl.tableChecked = false ∧ s.restart.1 = s.restartCleared) := by
  have configured : s.restartCleared.configured = s.modeControl.tableChecked :=
    s.restartCleared_calm.configured.trans s.restartMode_configured
  rw [State.restart_eq, configured]
  cases s.modeControl.tableChecked
  · exact .inr ⟨rfl, rfl⟩
  · exact .inl ⟨rfl, rfl⟩

theorem State.enterStandby_chose (s : State) : Chose s.loadCycle s.enterStandby := by
  rw [State.enterStandby_eq]
  split
  · exact .refl _
  · exact State.walkFrom_chose _ _

/-- The entry to STANDBY and its choice add to a RESTART only a held request, the rotation, and the Cycle Sequencer. -/
structure State.Restarted (s t : State) : Prop where
  frame : Touches [.alerts, .composer, .link, .sequencer, .countOwed] s.restartEmptied t
  link : t.link = { s.restartEmptied.link with held := t.link.held }
  composer : t.composer = { s.restartEmptied.composer with rotation := t.composer.rotation }
  alerts : t.alerts = s.restartEmptied.standing.foldl (fun v k => AlertUnit.rise k v) .reset

theorem State.restartCleared_restarted (s : State) : s.Restarted s.restartCleared := by
  rw [State.restartCleared_eq]
  exact ⟨(touches_alerts _ _).mono (by decide), rfl, rfl, rfl⟩

theorem State.restartCleared_quiet (s : State) : s.restartCleared.signing = false :=
  State.restarted_signing s.modeControl.tableChecked
    (congrArg ModeControl.mode (s.restartCleared_restarted.frame .modeControl (by decide)))

theorem State.restart_restarted (s : State) : s.Restarted s.restart.1 := by
  have cleared := s.restartCleared_restarted
  obtain ⟨-, entered⟩ | ⟨-, ended⟩ := s.restart_ends
  · obtain ⟨link, -, -⟩ := s.restartCleared.enterStandby_chose
    have composer := (State.enterStandby_walkedQuietly s.restartCleared_quiet).composer
    have touched := s.restartCleared.enterStandby_touches
    rw [entered]
    refine ⟨cleared.frame.trans (touched.mono (by decide)), ?_, ?_, (touched .alerts (by decide)).trans cleared.alerts⟩
    · rw [link]
      show ({ s.restartCleared.link with held := _ } : Link) = _
      rw [cleared.link]
    · rw [composer]
      show ({ s.restartCleared.composer with rotation := _ } : Composer) = _
      rw [cleared.composer]
  · rw [ended]
    exact cleared

theorem State.Restarted.deliveryRec {s t : State} (h : s.Restarted t) (g : Nat) :
    t.deliveryRec g = { s.deliveryRec g with demanded := none } := by
  rw [State.deliveryRec, h.composer]
  exact s.restartEmptied_deliveryRec g

/-- Settles O44: every item of `Restarted`, and the Cycle Sequencer at the two ends of a RESTART. -/
theorem restartKeepsAndClears : Obligations.RestartKeepsAndClears := by
  unfold Obligations.RestartKeepsAndClears
  intro s
  have restarted := s.restart_restarted
  have ends := s.restart_ends
  have kept := s.restart_touches
  rw [show s.carryOut .restart = (s.restart.1, accepted) from rfl]
  generalize s.restart.1 = t at restarted ends kept ⊢
  refine ⟨rfl, ?_⟩
  dsimp only
  have delivery := restarted.deliveryRec
  obtain ⟨frame, link, composer, alerts⟩ := restarted
  have modeControl : t.modeControl = s.restartMode.modeControl := frame .modeControl (by decide)
  have centre : t.centre = { s.centre with queue := [], round := none } := frame .centre (by decide)
  have station : ∀ n, t.stationRec n = .empty := fun n => by
    rw [State.stationRec, show t.stations = _ from frame .stations (by decide)]
    exact List.getElem?_getD_replicate_default_eq ..
  have control : ∀ g, t.gantryControl g = .reset := fun g => by
    rw [State.gantryControl, show t.control = _ from frame .control (by decide)]
    exact List.getElem?_getD_replicate_default_eq ..
  have closures : t.closures = .reset := frame .closures (by decide)
  have shoulder : ∀ g, t.shoulder g = .closed := fun g => by
    rw [State.shoulder, closures]
    exact List.getElem?_getD_replicate_default_eq ..
  have tables : t.tables = s.tables := kept .tables (by decide)
  have straps : t.straps = s.straps := kept .straps (by decide)
  have waiting : t.waiting = [] := frame .waiting (by decide)
  have limits : t.limitOrders = [] := frame .limitOrders (by decide)
  refine ⟨?_, ?_, ?_, tables, straps, ?_, station, waiting, control, limits, ?_, shoulder, ?_, ?_, delivery, centre, ?_,
    fun k => ?_, ?_, fun checked => ?_, fun unchecked => ?_⟩
  · exact congrArg ModeControl.mode modeControl
  · exact (congrArg ModeControl.tableChecked modeControl).trans rfl
  · exact congrArg ModeControl.startupCount modeControl
  · rw [link]
    exact ⟨rfl, rfl, rfl, rfl, rfl, rfl, rfl, rfl, rfl, rfl⟩
  · rw [closures]
    rfl
  · rw [composer]
    rfl
  · rw [composer]
    rfl
  · rw [alerts, AlertUnit.rises_masked]
    rfl
  · rw [alerts, AlertUnit.mem_rises_present, State.mem_restartEmptied_standing, State.mem_standing]
    exact or_iff_left List.not_mem_nil
  · rw [alerts]
    exact AlertUnit.rises_latched _ rfl
  · obtain ⟨-, entered⟩ | ⟨other, -⟩ := ends
    · have sequencer := (State.enterStandby_walkedQuietly s.restartCleared_quiet).sequencer
      have before : s.restartCleared.tables = s.tables := by
        rw [← tables, entered]
        exact (State.enterStandby_touches _ .tables (by decide)).symm
      rw [entered, sequencer]
      refine ⟨rfl, rfl, rfl, ?_⟩
      show some (s.restartCleared.par.intervalLength * 1000) = _
      rw [State.par, State.par, before]
    · exact absurd (checked.symm.trans other) (by decide)
  · obtain ⟨other, -⟩ | ⟨-, ended⟩ := ends
    · exact absurd (unchecked.symm.trans other) (by decide)
    · rw [ended, State.restartCleared_eq]
      rfl

end Sys2Proof.Machine
end

section
/-! SUPPORT. The merge hold's expiry (R138), the judgement of a complete reply (R148, R149) and the refresh of a
gantry (R152). -/

namespace Sys2Proof.Machine

/-! ## The merge hold's expiry (R138) -/

/-- What SHOULDER_HALTED reads of an entry. -/
def Closure.haltMark (c : Closure) : Nat × Bool :=
  (c.slot, match c.body with
    | .road _ => false
    | .shoulder o => decide (o.phase = .halted))

theorem haltedSlots_congr {register register' : List Closure}
    (same : register'.map Closure.haltMark = register.map Closure.haltMark) :
    haltedSlots register' = haltedSlots register := by
  have read : ∀ l : List Closure, haltedSlots l =
      (List.range Config.closureRegisterSize).filter (fun n => (l.map Closure.haltMark).any (fun x => x.1 == n && x.2)) := by
    intro l
    simp only [List.any_map]
    rfl
  rw [read, read, same]

/-- A register whose halted orders are those before raises and lowers no SHOULDER_HALTED. -/
theorem State.changeRegister_of_same {s : State} {register : List Closure}
    (same : haltedSlots register = haltedSlots s.closures.register) : s.changeRegister register = s.setRegister register := by
  have none_new : (haltedSlots s.closures.register).filter (fun n => !(haltedSlots s.closures.register).contains n) = [] :=
    List.filter_eq_nil_iff.mpr fun n there => by simp [there]
  unfold State.changeRegister
  dsimp only
  rw [same, none_new]
  rfl

theorem ClosureUnit.find_shoulderOrder {u : ClosureUnit} {slot : Nat} {o : ShoulderOrder}
    (held : (slot, o) ∈ u.shoulderOrders) (once : (u.register.map Closure.slot).Nodup) :
    u.shoulderOrders.find? (fun x => x.1 == slot) = some (slot, o) := by
  cases found : u.shoulderOrders.find? (fun x => x.1 == slot) with
  | none => exact absurd (List.find?_eq_none.mp found _ held) (by simp)
  | some x =>
    obtain ⟨n, o'⟩ := x
    have here : n = slot := by simpa using List.find?_some found
    subst here
    obtain ⟨c, hc, slot, body⟩ := ClosureUnit.mem_shoulderOrders.mp held
    obtain ⟨d, hd, slot', body'⟩ := ClosureUnit.mem_shoulderOrders.mp (List.mem_of_find?_eq_some found)
    cases Closure.eq_of_slot once hc hd (slot.trans slot'.symm)
    cases body.symm.trans body'
    rfl

section expiry
variable {s : State} {slot f n : Nat} {o : ShoulderOrder}

/-- A closing whose hold has run out closes its front, and goes on from the next OPEN gantry or ends. -/
theorem State.expireHold_of_closing (held : (slot, o) ∈ s.closures.shoulderOrders)
    (once : (s.closures.register.map Closure.slot).Nodup) (closing : o.phase = .closing) (front : o.front = some f)
    (hold : o.mergeHold = some n) :
    s.expireHold slot = match (s.setShoulder f .closed).firstOpen (f + 1) o with
      | some h => (s.setShoulder f .closed).moveClosing slot o h
      | none => ((s.setShoulder f .closed).setRegister
          (s.closures.register.filter (fun c => decide (c.slot ≠ slot)))).requestPass o.lastGantry := by
  unfold State.expireHold
  rw [ClosureUnit.find_shoulderOrder held once]
  dsimp only
  rw [closing, front, hold]
  rfl

theorem State.firstOpen_beyond_closed :
    (s.setShoulder f .closed).firstOpen (f + 1) o = none ↔ ∀ g, f < g → g ≤ o.lastGantry → s.shoulder g ≠ .opened := by
  have other : ∀ g, f < g → (s.setShoulder f .closed).shoulder g = s.shoulder g := fun g beyond =>
    State.setShoulder_shoulder_ne _ s beyond.ne'
  constructor
  · exact fun found g beyond last => other g beyond ▸ State.firstOpen_none found beyond last
  · intro closed
    cases found : (s.setShoulder f .closed).firstOpen (f + 1) o with
    | none => rfl
    | some h =>
      obtain ⟨beyond, last, opened, -⟩ := State.firstOpen_some found
      exact absurd (other h beyond ▸ opened) (closed h beyond last)

theorem State.firstOpen_beyond_opened {h : Nat} (beyond : f < h) (last : h ≤ o.lastGantry) (opened : s.shoulder h = .opened)
    (between : ∀ g, f < g → g < h → s.shoulder g ≠ .opened) :
    (s.setShoulder f .closed).firstOpen (f + 1) o = some h := by
  have other : ∀ g, f < g → (s.setShoulder f .closed).shoulder g = s.shoulder g := fun g beyond =>
    State.setShoulder_shoulder_ne _ s beyond.ne'
  cases found : (s.setShoulder f .closed).firstOpen (f + 1) o with
  | none => exact absurd opened (State.firstOpen_beyond_closed.mp found h beyond last)
  | some x =>
    obtain ⟨beyond', -, opened', between'⟩ := State.firstOpen_some found
    rw [other x beyond'] at opened'
    obtain earlier | same | later := Nat.lt_trichotomy x h
    · exact absurd opened' (between x beyond' earlier)
    · rw [same]
    · exact absurd ((other h beyond).trans opened) (between' h beyond later)

end expiry

theorem State.requestPass_of_idle {s : State} (signing : s.signing = true) (idle : s.composer.pass = none) (h : Nat) :
    s.requestPass h = { s with composer := { s.composer with pass := some h } } := by
  unfold State.requestPass
  rw [if_pos signing, idle]

/-- A closing moved on stays closing, so that no SHOULDER_HALTED changes. -/
theorem State.moveClosing_of_idle {s : State} {slot : Nat} {o : ShoulderOrder} (held : (slot, o) ∈ s.closures.shoulderOrders)
    (once : (s.closures.register.map Closure.slot).Nodup) (closing : o.phase = .closing) (signing : s.signing = true)
    (idle : s.composer.pass = none) (h : Nat) :
    s.moveClosing slot o h = { (s.setRegister (putShoulder s.closures.register slot { o with
        front := some h, mergeHold := if s.gantryOut h then some s.holdTime else none })).setShoulder h .merge with
      composer := { s.composer with pass := some h } } := by
  have order : ({ o with
      phase := .closing, front := some h, mergeHold := if s.gantryOut h then some s.holdTime else none } : ShoulderOrder) =
      { o with front := some h, mergeHold := if s.gantryOut h then some s.holdTime else none } := by rw [← closing]
  have marks : haltedSlots (putShoulder s.closures.register slot { o with
      front := some h, mergeHold := if s.gantryOut h then some s.holdTime else none }) =
      haltedSlots s.closures.register :=
    haltedSlots_congr (putShoulder_map _ held once fun id => rfl)
  unfold State.moveClosing
  rw [order, State.changeRegister_of_same marks]
  exact State.requestPass_of_idle (by exact signing) (by exact idle) h

/-- Settles O32: the two ends of `expireHold_of_closing`. -/
theorem mergeHoldExpiryMovesTheFront : Obligations.MergeHoldExpiryMovesTheFront := by
  unfold Obligations.MergeHoldExpiryMovesTheFront
  intro s slot id f n o released signing once registered closing front hold _ _ idle
  have held : (slot, o) ∈ s.closures.shoulderOrders := ClosureUnit.mem_shoulderOrders.mpr ⟨_, registered, rfl, rfl⟩
  have taken : exec (.mergeHoldExpiry slot) s = .next (s.expireHold slot) := State.unlessReset_released released _
  have expired := State.expireHold_of_closing held once closing front hold
  refine ⟨fun closed => ?_, fun h beyond last opened between => ?_⟩
  · rw [State.firstOpen_beyond_closed.mpr closed] at expired
    have ended := expired.trans (State.requestPass_of_idle (by exact signing) (by exact idle) _)
    exact ⟨_, taken.trans (congrArg _ ended), rfl, rfl⟩
  · rw [State.firstOpen_beyond_opened beyond last opened between] at expired
    have moved := expired.trans (State.moveClosing_of_idle (by exact held) (by exact once) closing (by exact signing)
      (by exact idle) h)
    refine ⟨_, taken.trans (congrArg _ moved), rfl, rfl, rfl, _, rfl, ?_⟩
    have out : ((s.setShoulder f .closed).gantryOut h = true) ↔
        ((s.deliveryRec h).state = .failed ∨ (s.deliveryRec h).state = .inLocal) := decide_eq_true_iff
    simp only [out]
    rfl

end Sys2Proof.Machine
end

section
/-! SUPPORT. The Sign Command Queue after a refresh (R152) and after the judgement of a complete reply (R148, R149). -/

namespace Sys2Proof.Machine

section signs
variable {s : State} {g : Nat}

/-! ## Placement and refresh (R146, R152) -/

theorem State.inQueue_iff : s.inQueue g = true ↔ ∃ e ∈ s.composer.queue, e.gantry = g := by simp [State.inQueue]

theorem State.not_inQueue_iff : s.inQueue g = false ↔ ∀ e ∈ s.composer.queue, e.gantry ≠ g := by
  rw [← Bool.not_eq_true, State.inQueue_iff]
  push Not
  rfl

theorem State.place_of_absent (absent : s.inQueue g = false) (cls : EntryClass) :
    s.place g cls = { s with composer := { s.composer with queue := s.composer.queue ++ [{ gantry := g, cls := cls }] } } := by
  rw [State.place, absent]
  rfl

/-- An ordinary placement changes no entry in place. -/
theorem State.place_ordinary (s : State) (g : Nat) :
    s.place g .ordinary = { s with composer := { s.composer with
      queue := if s.inQueue g then s.composer.queue else s.composer.queue ++ [{ gantry := g, cls := .ordinary }] } } := by
  have unchanged : s.composer.queue.map (fun e : QueueEntry =>
      if e.gantry = g ∧ EntryClass.ordinary = .restrictive then { e with cls := .restrictive } else e) = s.composer.queue := by
    refine (List.map_congr_left fun e _ => if_neg ?_).trans (List.map_id _)
    exact fun both => nomatch both.2
  unfold State.place
  rw [unchanged]

theorem State.reachRefresh_of_none (unset : (s.deliveryRec g).sinceSet = none) : s.reachRefresh g = s := by
  unfold State.reachRefresh
  dsimp only
  rw [unset]

theorem State.reachRefresh_of_some {n : Nat} (set : (s.deliveryRec g).sinceSet = some n) :
    s.reachRefresh g = { s with composer := { s.composer with
      delivery := s.composer.delivery.set g { s.deliveryRec g with sinceSet := some (max n (s.par.refreshTime * 1000)) },
      queue := if s.signing = true ∧ (s.deliveryRec g).state ≠ .inLocal ∧ (∀ e ∈ s.composer.queue, e.gantry ≠ g) ∧
            (s.deliveryRec g).demanded ≠ none
        then s.composer.queue ++ [{ gantry := g, cls := .ordinary }] else s.composer.queue } } := by
  have called : (s.signing && decide ((s.deliveryRec g).state ≠ .inLocal) && !s.inQueue g &&
      (s.deliveryRec g).demanded.isSome) = true ↔
      s.signing = true ∧ (s.deliveryRec g).state ≠ .inLocal ∧ (∀ e ∈ s.composer.queue, e.gantry ≠ g) ∧
        (s.deliveryRec g).demanded ≠ none := by
    rw [← State.not_inQueue_iff, Option.ne_none_iff_isSome]
    simp only [Bool.and_eq_true, decide_eq_true_eq, Bool.not_eq_true', and_assoc]
  unfold State.reachRefresh
  dsimp only
  rw [set]
  dsimp only
  split
  next yes =>
    obtain ⟨-, -, absent, -⟩ := called.mp yes
    rw [if_pos (called.mp yes), State.place_of_absent (by exact State.not_inQueue_iff.mpr absent)]
    rfl
  next no =>
    rw [if_neg (mt called.mpr no)]
    rfl

end signs

/-- Settles O35: the two branches of `reachRefresh`. -/
theorem refreshPlacesTheGantry : Obligations.RefreshPlacesTheGantry := by
  unfold Obligations.RefreshPlacesTheGantry
  intro s g n released configured inside _
  have taken : exec (.refreshTimeReached g) s = .next (s.reachRefresh g) := by
    refine (State.unlessReset_released released (fun t => if t.configured && decide (g < t.gantryCount) then
      t.reachRefresh g else t)).trans (congrArg _ (if_pos ?_))
    rw [configured, decide_eq_true inside]
    rfl
  refine ⟨fun unset => taken.trans (congrArg _ (State.reachRefresh_of_none unset)), fun set => ?_⟩
  exact ⟨_, taken.trans (congrArg _ (State.reachRefresh_of_some set)), rfl, rfl, rfl⟩

/-! ## A failed attempt (R149) -/

section attempts
variable {s : State} {g : Nat}

theorem State.failAttempt_of_other (other : (s.deliveryRec g).state ≠ .awaiting) (mayPlace : Bool) :
    s.failAttempt g mayPlace = s := if_neg other

theorem State.failAttempt_of_last (awaiting : (s.deliveryRec g).state = .awaiting) (last : 3 ≤ (s.deliveryRec g).attempts + 1)
    (mayPlace : Bool) :
    s.failAttempt g mayPlace =
      (s.setDelivery g { s.deliveryRec g with attempts := 3, state := .failed }).dequeue g := by
  unfold State.failAttempt
  dsimp only
  rw [if_pos awaiting, if_pos (by exact last)]

theorem State.failAttempt_of_more (awaiting : (s.deliveryRec g).state = .awaiting) (more : (s.deliveryRec g).attempts + 1 < 3)
    (mayPlace : Bool) :
    s.failAttempt g mayPlace = { s with composer := { s.composer with
      delivery := s.composer.delivery.set g { s.deliveryRec g with attempts := (s.deliveryRec g).attempts + 1 },
      queue := if mayPlace && !s.inQueue g then s.composer.queue ++ [{ gantry := g, cls := .ordinary }]
        else s.composer.queue } } := by
  unfold State.failAttempt
  dsimp only
  rw [if_pos awaiting, if_neg (by exact Nat.not_le.mpr more), State.place_ordinary]
  cases mayPlace
  · rfl
  · show ({ s with composer := { s.composer with
        delivery := _, queue := if s.inQueue g then s.composer.queue else _ } } : State) = _
    cases s.inQueue g <;> rfl

/-- A failed attempt sets only the state and the attempts of its gantry's record. -/
theorem State.failAttempt_records (inside : g < s.composer.delivery.length) (mayPlace : Bool) :
    (s.failAttempt g mayPlace).deliveryRec g = { s.deliveryRec g with
      state := ((s.failAttempt g mayPlace).deliveryRec g).state,
      attempts := ((s.failAttempt g mayPlace).deliveryRec g).attempts } ∧
    ∀ h, h ≠ g → (s.failAttempt g mayPlace).deliveryRec h = s.deliveryRec h := by
  have kept (d : DeliveryRec) (t : State) (same : t.composer.delivery = (s.setDelivery g d).composer.delivery)
      (parts : d = { s.deliveryRec g with state := d.state, attempts := d.attempts }) :
      t.deliveryRec g = { s.deliveryRec g with state := (t.deliveryRec g).state, attempts := (t.deliveryRec g).attempts } ∧
        ∀ h, h ≠ g → t.deliveryRec h = s.deliveryRec h := by
    have read : ∀ h, t.deliveryRec h = (s.setDelivery g d).deliveryRec h := fun h => by
      rw [State.deliveryRec, same]
      rfl
    refine ⟨?_, fun h other => (read h).trans (State.setDelivery_deliveryRec_of_ne _ _ other)⟩
    rw [read g, State.setDelivery_deliveryRec_of_lt _ _ inside]
    exact parts
  by_cases awaiting : (s.deliveryRec g).state = .awaiting
  · by_cases more : (s.deliveryRec g).attempts + 1 < 3
    · rw [State.failAttempt_of_more awaiting more]
      exact kept { s.deliveryRec g with attempts := (s.deliveryRec g).attempts + 1 } _ rfl rfl
    · rw [State.failAttempt_of_last awaiting (Nat.not_lt.mp more)]
      exact kept { s.deliveryRec g with attempts := 3, state := .failed } _ rfl rfl
  · rw [State.failAttempt_of_other awaiting]
    exact ⟨rfl, fun _ _ => rfl⟩

end attempts

/-! ## A complete reply judged lane by lane (R148) -/

/-- A record as a complete reply leaves it, but for its state and attempts. -/
def State.judgedRec (g : Nat) (status : DriverStatus) (shown : List Displayed) (s : State) : DeliveryRec :=
  { s.deliveryRec g with
    confirmed := some shown,
    confirmedLegend := ((s.deliveryRec g).sent.map Signing.legend).or (s.deliveryRec g).confirmedLegend,
    status := some status,
    failedLanes := failingLanes (s.tables.gantry g) (((s.deliveryRec g).sent.map Signing.aspects).getD []) shown
      status.lampFaults }

section judgement
variable {s : State} {g : Nat} {status : DriverStatus} {shown : List Displayed}

theorem State.judgeLanes_of_none (none_fails : (s.judgedRec g status shown).failedLanes = []) (mayPlace : Bool) :
    s.judgeLanes g status shown mayPlace =
      s.setDelivery g { s.judgedRec g status shown with state := .confirmed, attempts := 0 } :=
  if_pos (List.isEmpty_iff.mpr none_fails)

theorem State.judgeLanes_of_some (some_fail : (s.judgedRec g status shown).failedLanes ≠ []) (mayPlace : Bool) :
    s.judgeLanes g status shown mayPlace = (s.setDelivery g (s.judgedRec g status shown)).failAttempt g mayPlace :=
  if_neg fun h => some_fail (List.isEmpty_iff.mp h)

theorem mem_failingLanes {d : GantryDesc} {sent : List Aspect} {lamps : List Nat} {l : Nat} :
    l ∈ failingLanes d sent shown lamps ↔
      l ∈ d.signedLanes ∧ (onLane d shown l ≠ (onLane d sent l).map Displayed.shows ∨ l ∈ lamps) := by
  simp [failingLanes]

/-- Every judgement takes the reply into its gantry's record alone, and then settles the state and the attempts. -/
theorem State.judgeLanes_records (inside : g < s.composer.delivery.length) (mayPlace : Bool) :
    (s.judgeLanes g status shown mayPlace).deliveryRec g = { s.judgedRec g status shown with
      state := ((s.judgeLanes g status shown mayPlace).deliveryRec g).state,
      attempts := ((s.judgeLanes g status shown mayPlace).deliveryRec g).attempts } ∧
    ∀ h, h ≠ g → (s.judgeLanes g status shown mayPlace).deliveryRec h = s.deliveryRec h := by
  by_cases none_fails : (s.judgedRec g status shown).failedLanes = []
  · rw [State.judgeLanes_of_none none_fails, State.setDelivery_deliveryRec_of_lt _ _ inside]
    exact ⟨rfl, fun h other => State.setDelivery_deliveryRec_of_ne _ _ other⟩
  · rw [State.judgeLanes_of_some none_fails]
    obtain ⟨own, others⟩ := State.failAttempt_records (s := s.setDelivery g (s.judgedRec g status shown))
      (by simpa [State.setDelivery] using inside) mayPlace
    rw [State.setDelivery_deliveryRec_of_lt _ _ inside] at own
    exact ⟨own, fun h other => (others h other).trans (State.setDelivery_deliveryRec_of_ne _ _ other)⟩

end judgement

/-- Settles O34: the records by `judgeLanes_records`, and the branches of a failed attempt. -/
theorem signReplyIsJudged : Obligations.SignReplyIsJudged := by
  unfold Obligations.SignReplyIsJudged
  intro s g status shown mayPlace inside
  dsimp only
  obtain ⟨own, others⟩ := State.judgeLanes_records (status := status) (shown := shown) inside mayPlace
  have lanes : ((s.judgeLanes g status shown mayPlace).deliveryRec g).failedLanes =
      (s.judgedRec g status shown).failedLanes := by rw [own]
  refine ⟨(s.judgeLanes_touches g status shown mayPlace).rebuild, others, ?_, fun x sent => ?_, ?_, ?_, ?_, fun l => ?_,
    fun sound => ?_, fun ⟨l, signed, fails⟩ => ?_⟩
  · rw [own]
    rfl
  · rw [own]
    show ((s.deliveryRec g).sent.map Signing.legend).or _ = _
    rw [sent]
    rfl
  · rw [own]
    rfl
  · rw [own]
    rfl
  · rw [own]
    rfl
  · rw [lanes]
    exact mem_failingLanes
  · have none_fails : (s.judgedRec g status shown).failedLanes = [] :=
      List.eq_nil_iff_forall_not_mem.mpr fun l there =>
        sound l (mem_failingLanes.mp there).1 (mem_failingLanes.mp there).2
    rw [State.judgeLanes_of_none none_fails, State.setDelivery_deliveryRec_of_lt _ _ inside]
    exact ⟨rfl, rfl, rfl⟩
  · have some_fail : (s.judgedRec g status shown).failedLanes ≠ [] :=
      List.ne_nil_of_mem (mem_failingLanes.mpr ⟨signed, fails⟩)
    rw [State.judgeLanes_of_some some_fail]
    have judged : (s.setDelivery g (s.judgedRec g status shown)).deliveryRec g = s.judgedRec g status shown :=
      State.setDelivery_deliveryRec_of_lt _ _ inside
    have again : g < (s.setDelivery g (s.judgedRec g status shown)).composer.delivery.length := by
      simpa [State.setDelivery] using inside
    refine ⟨fun failed => ?_, fun awaiting more => ?_, fun awaiting last => ?_⟩
    · rw [State.failAttempt_of_other (by rw [judged]; exact fun other => nomatch failed.symm.trans other), judged]
      exact ⟨failed, rfl, rfl⟩
    · rw [State.failAttempt_of_more (by rw [judged]; exact awaiting) (by rw [judged]; exact more), judged]
      have counted := State.setDelivery_deliveryRec_of_lt _ { s.judgedRec g status shown with
        attempts := (s.judgedRec g status shown).attempts + 1 } again
      exact ⟨(congrArg DeliveryRec.state counted).trans awaiting, congrArg DeliveryRec.attempts counted, rfl⟩
    · rw [State.failAttempt_of_last (by rw [judged]; exact awaiting) (by rw [judged]; exact last), judged]
      refine ⟨?_, ?_, rfl⟩
      · show ((State.setDelivery g _ _).deliveryRec g).state = _
        rw [State.setDelivery_deliveryRec_of_lt _ _ again]
      · show ((State.setDelivery g _ _).deliveryRec g).attempts = _
        rw [State.setDelivery_deliveryRec_of_lt _ _ again]

end Sys2Proof.Machine
end

section
/-! SUPPORT. What a visit composes: the ceiling of the candidate (R113, R115), the aspect of each signed lane (R130, R142),
the legend (R143) and the placement (R144). -/

namespace Sys2Proof.Machine

/-! ## The ceiling of the candidate (R113, R115) -/

/-- The limits whose least is the local limit (R113). -/
def State.limitsAt (g : Nat) (caps : List Nat) (s : State) : List Limit :=
  s.stageLimit g :: (s.tables.gantry g).gmax ::
    ((s.coveringOrders g).map (fun o => Limit.kmh o.cap) ++ caps.map Limit.kmh)

theorem State.localLimit_spec (g : Nat) (caps : List Nat) (s : State) :
    (∀ m ∈ s.limitsAt g caps, s.par.value (s.localLimit g caps) ≤ s.par.value m) ∧
      s.localLimit g caps ∈ s.limitsAt g caps :=
  s.par.least_spec _ _

/-- The candidate is taken within the least of the local limit and the cascade bound. -/
theorem State.candidate_ceiling (g : Nat) (caps : List Nat) (s : State) : ∃ ceiling,
    s.candidate g caps = s.par.candidate ceiling ∧ (∀ m ∈ s.limitsAt g caps, ceiling ≤ s.par.value m) ∧
      (∀ b ∈ s.cascadeBound g, ceiling ≤ b) ∧
      ((∃ m ∈ s.limitsAt g caps, ceiling = s.par.value m) ∨ s.cascadeBound g = some ceiling) := by
  obtain ⟨least, member⟩ := s.localLimit_spec g caps
  unfold State.candidate
  cases s.cascadeBound g with
  | none => exact ⟨_, rfl, least, nofun, .inl ⟨_, member, rfl⟩⟩
  | some b =>
    refine ⟨_, rfl, fun m hm => (min_le_left _ _).trans (least m hm), fun c hc => ?_, ?_⟩
    · cases hc
      exact min_le_right _ _
    · obtain below | above := le_total (s.par.value (s.localLimit g caps)) b
      · exact .inl ⟨_, member, min_eq_left below⟩
      · exact .inr (congrArg some (min_eq_right above).symm)

/-! ## The aspect of each signed lane (R130, R142) -/

theorem highest_mem (candidates : List Aspect) (last : Aspect) :
    highest candidates last = last ∨ highest candidates last ∈ candidates := by
  induction candidates with
  | nil => exact .inl rfl
  | cons a rest ih =>
    show (if (highest rest last).rank ≤ a.rank then a else highest rest last) = last ∨
      (if (highest rest last).rank ≤ a.rank then a else highest rest last) ∈ a :: rest
    split
    · exact .inr List.mem_cons_self
    · exact ih.imp id (List.mem_cons_of_mem _)

/-- An overlay aspect that ranks no lower than the rest stands. -/
theorem highest_overlay {overlay : Option Aspect} {rest : List Aspect} {last : Aspect}
    (high : ∀ a ∈ overlay, (highest rest last).rank ≤ a.rank) :
    highest (overlay.toList ++ rest) last = overlay.getD (highest rest last) := by
  cases overlay with
  | none => rfl
  | some a => exact if_pos (high a rfl)

/-- The aspect of the carriageway limit of a gantry (R142). -/
def State.carriageway (g : Nat) (s : State) : Aspect := limitAspect ((s.gantryControl g).demanded.getD .nl)

theorem limitAspect_rank (l : Limit) : (limitAspect l).rank = 1 := by cases l <;> rfl

theorem State.overlayAspect_rank {s : State} {g l : Nat} : ∀ a ∈ s.overlayAspect g l, 2 ≤ a.rank := by
  intro a overlay
  obtain rfl | rfl | rfl := State.overlayAspect_kinds g l s a overlay <;> decide

/-- No composed aspect is BLANK. -/
theorem State.laneAspect_ne_blank (s : State) (g l : Nat) : s.laneAspect g l ≠ .blank := by
  intro blank
  unfold State.laneAspect at blank
  obtain last | candidate := highest_mem ((s.overlayAspect g l).toList ++
    if l = 0 then (shoulderAspect (s.shoulder g) (s.runningAspects g)).toList else []) (s.carriageway g)
  · have rank := congrArg Aspect.rank (last.symm.trans blank)
    exact absurd ((limitAspect_rank _).symm.trans rank) (by decide)
  · rw [show highest _ (s.carriageway g) = Aspect.blank from blank] at candidate
    obtain overlay | shoulder := List.mem_append.mp candidate
    · exact absurd (State.overlayAspect_rank _ (Option.mem_toList.mp overlay)) (by decide)
    · split at shoulder
      · have kinds : ∀ a ∈ shoulderAspect (s.shoulder g) (s.runningAspects g), a ≠ .blank := by
          unfold shoulderAspect
          intro a given
          split at given
          · cases given
            decide
          · cases given
            split <;> decide
          · cases given
        exact kinds _ (Option.mem_toList.mp shoulder) rfl
      · cases shoulder

section lanes
variable {s : State} {g : Nat}

/-- A running lane shows its overlay aspect, or the carriageway limit. -/
theorem State.laneAspect_running {l : Nat} (running : l ≠ 0) :
    s.laneAspect g l = (s.overlayAspect g l).getD (s.carriageway g) := by
  unfold State.laneAspect
  rw [if_neg running]
  refine highest_overlay fun a overlay => ?_
  exact (limitAspect_rank _).le.trans ((by decide : 1 ≤ 2).trans (State.overlayAspect_rank a overlay))

theorem State.laneAspect_zero : s.laneAspect g 0 = highest ((s.overlayAspect g 0).toList ++
    (shoulderAspect (s.shoulder g) (s.runningAspects g)).toList) (s.carriageway g) := rfl

/-- A CLOSED shoulder aspect stands, whatever the overlay. -/
theorem State.laneAspect_shut (shut : shoulderAspect (s.shoulder g) (s.runningAspects g) = some .closed) :
    s.laneAspect g 0 = .closed := by
  rw [State.laneAspect_zero, shut]
  exact Aspect.eq_closed_of_rank (Aspect.rank_le_highest (a := .closed) (List.mem_append_right _ List.mem_cons_self))

theorem State.laneAspect_merging (merging : shoulderAspect (s.shoulder g) (s.runningAspects g) = some .mergeOffside) :
    s.laneAspect g 0 = (s.overlayAspect g 0).getD .mergeOffside := by
  have alone : highest [.mergeOffside] (s.carriageway g) = .mergeOffside :=
    if_pos (show (s.carriageway g).rank ≤ 2 from (limitAspect_rank _).le.trans (by decide))
  rw [State.laneAspect_zero, merging]
  refine (highest_overlay fun a overlay => ?_).trans (congrArg _ alone)
  rw [show highest (some Aspect.mergeOffside).toList _ = _ from alone]
  exact State.overlayAspect_rank a overlay

theorem State.laneAspect_opened (opened : s.shoulder g = .opened) :
    s.laneAspect g 0 = (s.overlayAspect g 0).getD (s.carriageway g) := by
  rw [State.laneAspect_zero, opened]
  refine highest_overlay fun a overlay => ?_
  exact (limitAspect_rank _).le.trans ((by decide : 1 ≤ 2).trans (State.overlayAspect_rank a overlay))

/-- A lane that merging traffic can move to: a running lane that is not CLOSED (R142). -/
theorem State.runningAspects_any : (s.runningAspects g).any (fun a => decide (a ≠ .closed)) = true ↔
    ∃ l, 1 ≤ l ∧ l ≤ (s.tables.gantry g).lanes ∧ s.laneAspect g l ≠ .closed := by
  unfold State.runningAspects
  rw [List.any_map, List.any_eq_true]
  constructor
  · rintro ⟨l, inside, unclosed⟩
    rw [List.mem_range'_1] at inside
    refine ⟨l, inside.1, by omega, ?_⟩
    rw [← State.composeRunning_eq (by omega)]
    exact of_decide_eq_true unclosed
  · rintro ⟨l, low, high, unclosed⟩
    refine ⟨l, List.mem_range'_1.mpr (by omega), decide_eq_true ?_⟩
    rw [← State.composeRunning_eq (by omega)] at unclosed
    exact unclosed

end lanes

/-! ## The legend (R143) -/

section legend
variable {s : State} {g : Nat}

theorem State.composeLegend_incident (asked : s.incidentAsked g = true) : s.composeLegend g = .incidentAhead :=
  if_pos asked

theorem State.composeLegend_queue (unasked : s.incidentAsked g = false) (queue : s.handedLegend g = .queueAhead) :
    s.composeLegend g = .queueAhead := by
  unfold State.composeLegend
  dsimp only
  rw [if_neg (by rw [unasked]; nofun), if_pos queue]

theorem State.composeLegend_order (unasked : s.incidentAsked g = false) (clear : s.handedLegend g ≠ .queueAhead)
    {before after : List LimitOrder} {o : LimitOrder} {legend : Legend} (covering : s.coveringOrders g = before ++ o :: after)
    (given : o.legend = some legend) (earlier : ∀ p ∈ before, p.legend ≠ none → o.cap < p.cap)
    (later : ∀ p ∈ after, p.legend ≠ none → o.cap ≤ p.cap) : s.composeLegend g = legend := by
  have lowest : lowestCapped ((s.coveringOrders g).filter (fun o => o.legend.isSome)) = some o := by
    refine lowestCapped_earliest _ (before.filter (fun o => o.legend.isSome)) (after.filter (fun o => o.legend.isSome)) o ?_
      (fun p there => ?_) (fun p there => ?_)
    · rw [covering, List.filter_append, List.filter_cons_of_pos (by rw [given]; rfl)]
    · obtain ⟨there, some_legend⟩ := List.mem_filter.mp there
      exact earlier p there (Option.isSome_iff_ne_none.mp some_legend)
    · obtain ⟨there, some_legend⟩ := List.mem_filter.mp there
      exact later p there (Option.isSome_iff_ne_none.mp some_legend)
  unfold State.composeLegend
  dsimp only
  rw [if_neg (by rw [unasked]; nofun), if_neg clear, lowest, Option.bind_some, given]

/-- Without a legend of a limit order, CONGESTION comes before SHOULDER_RUNNING. -/
theorem State.composeLegend_none (unasked : s.incidentAsked g = false) (clear : s.handedLegend g ≠ .queueAhead)
    (plain : ∀ o ∈ s.coveringOrders g, o.legend = none) :
    s.composeLegend g = if s.handedLegend g = .congestion then .congestion
      else if s.shoulder g = .opened then .shoulderRunning else .blank := by
  have none_left : (s.coveringOrders g).filter (fun o => o.legend.isSome) = [] :=
    List.filter_eq_nil_iff.mpr fun o there => by rw [plain o there]; exact nofun
  unfold State.composeLegend
  dsimp only
  rw [if_neg (by rw [unasked]; nofun), if_neg clear, none_left]
  rfl

end legend

/-! ## The placement (R144) -/

section placement
variable {s : State} {g : Nat}

theorem State.inQueue_place (s : State) (g : Nat) (cls : EntryClass) : (s.place g cls).inQueue g = true := by
  rw [State.inQueue_iff, State.place_eq]
  dsimp only
  split
  next held =>
    obtain ⟨e, there, here⟩ := held
    refine ⟨_, List.mem_map_of_mem there, ?_⟩
    split <;> exact here
  · exact ⟨_, List.mem_append_right _ List.mem_cons_self, rfl⟩

theorem State.refreshDue_iff : s.refreshDue g = true ↔
    ∃ n, (s.deliveryRec g).sinceSet = some n ∧ s.par.refreshTime * 1000 ≤ n := by
  unfold State.refreshDue
  cases (s.deliveryRec g).sinceSet <;> simp

/-- A gantry whose demand is still to be sent is placed once. -/
theorem State.placeVisited_of_unsent (unsent : s.demandUnsent g = true) :
    s.placeVisited g = s.place g (s.placementClass g) := by
  unfold State.placeVisited
  dsimp only
  rw [if_pos unsent, if_neg]
  rw [State.inQueue_place]
  simp

/-- A gantry whose demand has been sent is placed only for its refresh. -/
theorem State.placeVisited_of_sent (sent : s.demandUnsent g = false) :
    s.placeVisited g = if s.refreshDue g && decide ((s.deliveryRec g).state ≠ .inLocal) && !s.inQueue g
      then s.place g .ordinary else s := by
  unfold State.placeVisited
  simp only [sent, Bool.false_eq_true, if_false]

end placement

end Sys2Proof.Machine
end

section
/-! SUPPORT. COMPOSITION_PASS_VISIT: what a visit leaves of the state, item by item (R26, R112 to R116, R125, R130, R141 to
R144). -/

namespace Sys2Proof.Machine

/-! ## The stages of a visit (R141) -/

/-- The state in which a visit composes: the effective sites settled, and the demanded limit decided. -/
def State.settled (g : Nat) (s : State) : State :=
  (s.settleSites g).settleDemand g ((s.settleSites g).closureCaps g)

/-- What a visit demands of its gantry. -/
def State.demand (g : Nat) (s : State) : Signing :=
  { aspects := (s.settled g).composeLanes g, legend := (s.settled g).composeLegend g }

/-- The state in which a visit places its gantry. -/
def State.demanding (g : Nat) (s : State) : State :=
  (s.settled g).setDelivery g { (s.settled g).deliveryRec g with demanded := some (s.demand g) }

section stages
variable (s : State) (g : Nat)

theorem State.visit_stages : s.visit g = { (s.demanding g).placeVisited g with
    composer := { ((s.demanding g).placeVisited g).composer with pass := if g = 0 then none else some (g - 1) } } := rfl

theorem State.settled_touches : Touches [.closures, .alerts, .control] s (s.settled g) :=
  ((s.settleSites_touches g).mono (by decide)).trans ((State.settleDemand_touches _ g _).mono (by decide))

theorem State.settled_closures : (s.settled g).closures = (s.settleSites g).closures := rfl

theorem State.settled_par : (s.settled g).par = s.par := congrArg Tables.par (s.settled_touches g .tables (by decide))

theorem State.settled_deliveryRec (h : Nat) : (s.settled g).deliveryRec h = s.deliveryRec h :=
  congrArg (fun c : Composer => c.delivery.getD h .reset) (s.settled_touches g .composer (by decide))

theorem State.settled_shoulder (h : Nat) : (s.settled g).shoulder h = s.shoulder h := by
  obtain ⟨r, a, e, -⟩ := s.settleSites_spec g
  rw [State.shoulder, State.settled_closures, e]
  rfl

/-- The dwell decision of a visit, on the candidate within the limits at its gantry. -/
theorem State.settled_gantryControl_self (inside : g < s.control.length) : (s.settled g).gantryControl g =
    (s.gantryControl g).settleDwell s.par (s.tables.gantry g).dwell
      ((s.settleSites g).candidate g ((s.settleSites g).closureCaps g)) := by
  obtain ⟨r, a, e, -⟩ := s.settleSites_spec g
  unfold State.settled
  rw [e]
  show (s.control.set g _).getD g .reset = _
  rw [List.getD_eq_getElem?_getD, List.getElem?_set_self inside, Option.getD_some]
  rfl

theorem State.settled_gantryControl_ne {h : Nat} (other : h ≠ g) : (s.settled g).gantryControl h = s.gantryControl h := by
  obtain ⟨r, a, e, -⟩ := s.settleSites_spec g
  unfold State.settled
  rw [e]
  show (s.control.set g _).getD h .reset = _
  rw [List.getD_eq_getElem?_getD, List.getElem?_set_ne other.symm, ← List.getD_eq_getElem?_getD]
  rfl

/-- The band of a gantry is not a visit's to change. -/
theorem State.settled_band : ((s.settled g).gantryControl g).band = (s.gantryControl g).band := by
  by_cases inside : g < s.control.length
  · rw [s.settled_gantryControl_self g inside]
    unfold GantryControl.settleDwell
    dsimp only
    split
    · rfl
    · split <;> rfl
  · have out : ∀ t : State, t.control.length ≤ g → t.gantryControl g = .reset := fun t beyond =>
      List.getD_eq_default _ _ beyond
    have same : (s.settled g).control.length = s.control.length := by
      obtain ⟨r, a, e, -⟩ := s.settleSites_spec g
      unfold State.settled
      rw [e]
      exact List.length_set
    rw [out s (Nat.le_of_not_lt inside), out (s.settled g) (same ▸ Nat.le_of_not_lt inside)]

/-- The ceiling of a visit's candidate, in the state before the visit. -/
theorem State.settled_ceiling : ∃ ceiling,
    (s.settleSites g).candidate g ((s.settleSites g).closureCaps g) = s.par.candidate ceiling ∧
      (∀ m ∈ s.limitsAt g ((s.settleSites g).closureCaps g), ceiling ≤ s.par.value m) ∧ (∀ b ∈ s.cascadeBound g, ceiling ≤ b) ∧
      ((∃ m ∈ s.limitsAt g ((s.settleSites g).closureCaps g), ceiling = s.par.value m) ∨ s.cascadeBound g = some ceiling) := by
  obtain ⟨r, a, e, -⟩ := s.settleSites_spec g
  have bound : (s.settleSites g).cascadeBound g = s.cascadeBound g := by
    rw [e]
    unfold State.cascadeBound
    rw [State.governor_congr (s := s) (t := { s with closures := { s.closures with register := r }, alerts := a }) rfl
      fun _ _ => rfl]
    rfl
  have found := State.candidate_ceiling g ((s.settleSites g).closureCaps g) (s.settleSites g)
  rw [bound] at found
  generalize (s.settleSites g).closureCaps g = caps at found ⊢
  rw [e] at found ⊢
  exact found

/-! ## What is demanded (R130, R142) -/

theorem State.demand_aspects : (s.demand g).aspects =
    (s.tables.gantry g).signedLanes.map (fun l => (s.settled g).laneAspect g l) := by
  rw [← s.settled_touches g .tables (by decide)]
  exact (s.settled g).composeLanes_eq g

theorem State.demand_length : (s.demand g).aspects.length = (s.tables.gantry g).signedLanes.length := by
  rw [State.demand_aspects, List.length_map]

theorem State.demand_ne_blank : ∀ a ∈ (s.demand g).aspects, a ≠ .blank := by
  rw [State.demand_aspects]
  intro a there
  obtain ⟨l, -, rfl⟩ := List.mem_map.mp there
  exact State.laneAspect_ne_blank _ _ _

variable {s g} {l : Nat}

theorem State.demand_onLane (signed : l ∈ (s.tables.gantry g).signedLanes) :
    onLane (s.tables.gantry g) (s.demand g).aspects l = some ((s.settled g).laneAspect g l) := by
  rw [State.demand_aspects]
  exact onLane_map _ signed

theorem GantryDesc.running_signed {d : GantryDesc} (low : 1 ≤ l) (high : l ≤ d.lanes) : l ∈ d.signedLanes :=
  List.mem_append_right _ (List.mem_range'_1.mpr (by omega))

theorem GantryDesc.shoulder_signed {d : GantryDesc} (shoulder : d.shoulder = true) : 0 ∈ d.signedLanes :=
  List.mem_append_left _ (by rw [if_pos shoulder]; exact List.mem_cons_self)

/-- The carriageway limit once the demanded limit is decided. -/
theorem State.carriageway_of {t : State} {limit : Limit} (demanded : (t.gantryControl g).demanded = some limit) :
    t.carriageway g = limitAspect limit := by rw [State.carriageway, demanded, Option.getD_some]

/-- Merging traffic has a lane to move to (R142). -/
theorem State.demand_target : (∃ lane, 1 ≤ lane ∧ lane ≤ (s.tables.gantry g).lanes ∧
      onLane (s.tables.gantry g) (s.demand g).aspects lane ≠ some .closed) ↔
    ((s.settled g).runningAspects g).any (fun a => decide (a ≠ .closed)) = true := by
  rw [State.runningAspects_any, show (s.settled g).tables = s.tables from s.settled_touches g .tables (by decide)]
  refine exists_congr fun lane => and_congr_right fun low => and_congr_right fun high => ?_
  rw [State.demand_onLane (GantryDesc.running_signed low high)]
  exact (Option.some_inj.not)

end stages

end Sys2Proof.Machine
end

section
/-! SUPPORT. COMPOSITION_PASS_VISIT settled: the placement, the count of a close and the whole of a visit (R26, R141,
R144). -/

namespace Sys2Proof.Machine

/-! ## The placement of what is demanded (R144) -/

section queue
variable {s : State} {g : Nat}

theorem DeliveryState.out_eq_false {d : DeliveryState} : d.out = false ↔ d ≠ .failed ∧ d ≠ .inLocal := by
  cases d <;> decide

theorem State.demandUnsent_iff {signing : Signing} (demanded : (s.deliveryRec g).demanded = some signing) :
    s.demandUnsent g = true ↔ (s.deliveryRec g).state ≠ .failed ∧ (s.deliveryRec g).state ≠ .inLocal ∧
      ((s.deliveryRec g).sent = none ∨ (s.deliveryRec g).sent ≠ some signing) := by
  unfold State.demandUnsent
  simp only [Bool.and_eq_true, Bool.not_eq_true', Bool.or_eq_true, decide_eq_true_eq, Option.isNone_iff_eq_none,
    DeliveryState.out_eq_false, demanded, and_assoc, ne_comm (a := some signing)]

theorem State.placeVisited_unsent (unsent : s.demandUnsent g = true) :
    (¬ (∃ e ∈ s.composer.queue, e.gantry = g) →
      (s.placeVisited g).composer.queue = s.composer.queue ++ [{ gantry := g, cls := s.placementClass g }]) ∧
    ((∃ e ∈ s.composer.queue, e.gantry = g) → (s.placeVisited g).composer.queue = s.composer.queue.map (fun e =>
      if e.gantry = g ∧ s.placementClass g = .restrictive then { e with cls := .restrictive } else e)) := by
  rw [State.placeVisited_of_unsent unsent, State.place_eq]
  exact ⟨fun absent => if_neg absent, fun held => if_pos held⟩

theorem State.placeVisited_sent (sent : s.demandUnsent g = false) :
    let due := (s.deliveryRec g).state ≠ .inLocal ∧
      ∃ n, (s.deliveryRec g).sinceSet = some n ∧ s.par.refreshTime * 1000 ≤ n
    let held := ∃ e ∈ s.composer.queue, e.gantry = g
    (due → ¬ held → (s.placeVisited g).composer.queue = s.composer.queue ++ [{ gantry := g, cls := .ordinary }]) ∧
      (¬ due ∨ held → (s.placeVisited g).composer.queue = s.composer.queue) := by
  intro due held
  have called : (s.refreshDue g && decide ((s.deliveryRec g).state ≠ .inLocal) && !s.inQueue g) = true ↔ due ∧ ¬ held := by
    rw [Bool.and_eq_true, Bool.and_eq_true, State.refreshDue_iff, decide_eq_true_eq, Bool.not_eq_true', ← Bool.not_eq_true,
      State.inQueue_iff, and_comm (b := (s.deliveryRec g).state ≠ .inLocal)]
  rw [State.placeVisited_of_sent sent]
  constructor
  · intro is_due absent
    rw [if_pos (called.mpr ⟨is_due, absent⟩), State.place_of_absent (Bool.eq_false_iff.mpr (mt State.inQueue_iff.mp absent))]
  · intro other
    rw [if_neg fun yes => other.elim (fun undue => undue (called.mp yes).1) (called.mp yes).2]

end queue

/-! ## The state after a visit (R141) -/

/-- Where a visit and the count that follows leave each item. -/
structure State.Visited (g : Nat) (s t : State) : Prop where
  frame : t = { s with
    closures := t.closures, alerts := t.alerts, control := t.control, composer := t.composer,
    modeControl := t.modeControl, countOwed := t.countOwed }
  closures : t.closures = (s.settled g).closures
  alerts : t.alerts = (s.settleSites g).alerts
  control : t.control = (s.settled g).control
  delivery : t.composer.delivery = (s.demanding g).composer.delivery
  queue : t.composer.queue = ((s.demanding g).placeVisited g).composer.queue
  rotation : t.composer.rotation = s.composer.rotation

theorem visitFrame_of_touches {s t : State}
    (h : Touches [.closures, .alerts, .control, .composer, .modeControl, .countOwed] s t) : t = { s with
      closures := t.closures, alerts := t.alerts, control := t.control, composer := t.composer,
      modeControl := t.modeControl, countOwed := t.countOwed } := h.rebuild

theorem State.visit_visited (s : State) (g : Nat) : s.Visited g (s.visit g).countVisited := by
  have frame := ((s.visit_touches g).mono (by decide)).trans
    ((State.countVisited_touches (s.visit g)).mono (qs := [.closures, .alerts, .control, .composer, .modeControl, .countOwed])
      (by decide))
  obtain ⟨m, p, o, counted, -⟩ := (s.visit g).countVisited_cases
  obtain ⟨q, queued, -⟩ := State.placeVisited_spec g (s.demanding g)
  have placed : q = ((s.demanding g).placeVisited g).composer.queue := by rw [queued]
  have composer : (s.settled g).composer = s.composer := s.settled_touches g .composer (by decide)
  have stages := s.visit_stages g
  rw [queued] at stages
  generalize (s.visit g).countVisited = t at frame counted ⊢
  rw [stages] at counted
  subst counted
  refine ⟨visitFrame_of_touches frame, rfl, rfl, rfl, rfl, placed, ?_⟩
  show (s.settled g).composer.rotation = _
  rw [composer]

section visited
variable {s t : State} {g : Nat}

theorem State.Visited.tables (h : s.Visited g t) : t.tables = s.tables := (congrArg State.tables h.frame).trans rfl

theorem State.Visited.gantryControl (h : s.Visited g t) (x : Nat) : t.gantryControl x = (s.settled g).gantryControl x := by
  rw [State.gantryControl, h.control]
  rfl

theorem State.Visited.deliveryRec (h : s.Visited g t) (x : Nat) : t.deliveryRec x = (s.demanding g).deliveryRec x := by
  rw [State.deliveryRec, h.delivery]
  rfl

theorem State.demanding_deliveryRec_ne {x : Nat} (other : x ≠ g) : (s.demanding g).deliveryRec x = s.deliveryRec x :=
  (State.setDelivery_deliveryRec_of_ne _ _ other).trans (s.settled_deliveryRec g x)

theorem State.demanding_deliveryRec_self (inside : g < s.composer.delivery.length) :
    (s.demanding g).deliveryRec g = { s.deliveryRec g with demanded := some (s.demand g) } := by
  have same : (s.settled g).composer = s.composer := s.settled_touches g .composer (by decide)
  rw [State.demanding, State.setDelivery_deliveryRec_of_lt _ _ (by rw [same]; exact inside), State.settled_deliveryRec]

/-- The overlay of the visited gantry is the one it has composed. -/
theorem State.Visited.overlayAspect (h : s.Visited g t) (l : Nat) :
    t.overlayAspect g l = (s.settled g).overlayAspect g l := by
  refine State.overlayAspect_congr g l _ _ (h.tables.trans (s.settled_touches g .tables (by decide)).symm) h.closures
    fun x other => ?_
  rw [h.deliveryRec, State.demanding_deliveryRec_ne other, State.settled_deliveryRec]

theorem State.Visited.placementClass (h : s.Visited g t) : t.placementClass g = (s.demanding g).placementClass g := by
  have par : t.par = (s.demanding g).par :=
    congrArg Tables.par (h.tables.trans (s.settled_touches g .tables (by decide)).symm)
  unfold State.placementClass
  rw [h.deliveryRec, par]

end visited

/-! ## Settling COMPOSITION_PASS_VISIT (R141) -/

/-- The count of a close after a visit (R26). -/
theorem State.visit_counts (s : State) (g : Nat) :
    let t := (s.visit g).countVisited
    let next := if g = 0 then none else some (g - 1)
    (s.countOwed = none ∨ s.evaluationsAsked ≠ 0 →
      t.composer.pass = next ∧ t.modeControl = s.modeControl ∧ t.countOwed = s.countOwed) ∧
    ∀ n, s.countOwed = some n → s.evaluationsAsked = 0 →
      (1 < n → 0 < g → t.composer.pass = next ∧ t.modeControl = s.modeControl ∧ t.countOwed = some (n - 1)) ∧
      (n ≤ 1 ∨ g = 0 → t.countOwed = none ∧
        (s.mode ≠ .startup → t.composer.pass = next ∧ t.modeControl = s.modeControl) ∧
        (s.mode = .startup → t.modeControl.startupCount = s.modeControl.startupCount + 1 ∧
          (s.modeControl.startupCount + 1 < s.par.startupEvaluations → t.mode = .startup ∧ t.composer.pass = next) ∧
          (s.par.startupEvaluations ≤ s.modeControl.startupCount + 1 → t.mode = .active ∧ ∃ m,
            t.composer.pass = some m ∧ s.gantryCount - 1 ≤ m))) := by
  intro t next
  have touched := s.visit_touches g
  have owed : (s.visit g).countOwed = s.countOwed := touched .countOwed (by decide)
  have asked : (s.visit g).evaluationsAsked = s.evaluationsAsked := touched .evaluationsAsked (by decide)
  have modes : (s.visit g).modeControl = s.modeControl := touched .modeControl (by decide)
  have mode : (s.visit g).mode = s.mode := congrArg ModeControl.mode modes
  have tables : (s.visit g).tables = s.tables := touched .tables (by decide)
  have par : (s.visit g).par = s.par := congrArg Tables.par tables
  have count : (s.visit g).gantryCount = s.gantryCount := congrArg (fun x : Tables => x.gantries.length) tables
  have pass : (s.visit g).composer.pass = next := rfl
  have ends : next = none ↔ g = 0 := by
    show (if g = 0 then none else some (g - 1)) = none ↔ _
    split <;> simp [*]
  obtain ⟨m, p, o, counted, idle, counts⟩ := (s.visit g).countVisited_cases
  rw [owed, asked, modes, pass] at idle
  rw [owed, asked, modes, mode, par, count, pass] at counts
  have read : t = _ := counted
  rw [read]
  refine ⟨idle, fun n some_owed none_asked => ?_⟩
  obtain ⟨more, last⟩ := counts n some_owed none_asked
  exact ⟨fun many beyond => more many fun ended => beyond.ne' (ends.mp ended), fun few => last (few.imp id ends.mpr)⟩

end Sys2Proof.Machine
end

section
/-! SUPPORT. COMPOSITION_PASS_VISIT: the clauses of the statement, each read off the visited state (R113 to R116, R130,
R142 to R144). -/

namespace Sys2Proof.Machine

section visited
variable {s t : State} {g : Nat}

/-- The closures and the alerts after a visit (R125). -/
theorem State.Visited.sites (h : s.Visited g t) :
    (t.closures = { s.closures with register := t.closures.register } ∧ t.closures.ids = s.closures.ids ∧
      t.closures.shoulderOrders = s.closures.shoulderOrders ∧
      t.closures.roads = s.closures.roads.map (fun r => if r.site = g then s.settleRoad r else r)) ∧
    ∀ k, k.kind ≠ .closureUnprotected →
      (k ∈ t.alerts.present ↔ k ∈ s.alerts.present) ∧ (k ∈ t.alerts.latched ↔ k ∈ s.alerts.latched) := by
  obtain ⟨r, a, e, others, ids, orders, roads⟩ := s.settleSites_spec g
  have closures : t.closures = (s.settleSites g).closures := h.closures
  rw [closures, h.alerts]
  refine ⟨⟨?_, ids, orders, roads⟩, ?_⟩
  · rw [e]
  · rw [e]
    exact others

/-- The dwell decision on the largest displayed limit within the ceiling (R113, R115, R116). -/
theorem State.Visited.limit (h : s.Visited g t) (inside : g < s.control.length) {l : Limit}
    (demanded : ((s.settled g).gantryControl g).demanded = some l) : ∃ ceiling candidate,
    ((∀ m ∈ s.limitsAt g (t.closureCaps g), ceiling ≤ s.par.value m) ∧ (∀ b ∈ s.cascadeBound g, ceiling ≤ b) ∧
      ((∃ m ∈ s.limitsAt g (t.closureCaps g), ceiling = s.par.value m) ∨ s.cascadeBound g = some ceiling)) ∧
    (s.par.vtop + 10 ≤ ceiling → candidate = .nl) ∧
    (ceiling < s.par.vtop + 10 → s.par.displaySet ≠ [] → s.par.displaySet.Pairwise (· < ·) →
      ∃ v ∈ s.par.displaySet, candidate = .kmh v ∧
        ((∃ w ∈ s.par.displaySet, w ≤ ceiling) → v ≤ ceiling ∧ ∀ w ∈ s.par.displaySet, w ≤ ceiling → w ≤ v) ∧
        ((∀ w ∈ s.par.displaySet, ceiling < w) → ∀ w ∈ s.par.displaySet, v ≤ w)) ∧
    t.gantryControl g = (s.gantryControl g).settleDwell s.par (s.tables.gantry g).dwell candidate ∧
    (t.gantryControl g).demanded = some l := by
  obtain ⟨ceiling, candidate, least⟩ := s.settled_ceiling g
  obtain ⟨all, within⟩ := s.par.candidate_spec ceiling
  have caps : t.closureCaps g = (s.settleSites g).closureCaps g := by
    unfold State.closureCaps
    rw [h.closures, State.settled_closures]
  rw [caps, h.gantryControl]
  refine ⟨ceiling, s.par.candidate ceiling, least, all, within, ?_, demanded⟩
  rw [s.settled_gantryControl_self g inside, candidate]

/-- The running lanes and lane 0 of the visited gantry (R130, R142). -/
theorem State.Visited.lanes (h : s.Visited g t) {l : Limit} (demanded : ((s.settled g).gantryControl g).demanded = some l) :
    let d := s.tables.gantry g
    let shown := fun lane => onLane d (s.demand g).aspects lane
    let overlay := fun lane => t.overlayAspect g lane
    let target := ∃ lane, 1 ≤ lane ∧ lane ≤ d.lanes ∧ shown lane ≠ some .closed
    (∀ lane, 1 ≤ lane → lane ≤ d.lanes → shown lane = some ((overlay lane).getD (limitAspect l))) ∧
    (d.shoulder = true →
      (s.shoulder g = .closed → shown 0 = some .closed) ∧
      (s.shoulder g = .merge → ¬ target → shown 0 = some .closed) ∧
      (s.shoulder g = .merge → target → shown 0 = some ((overlay 0).getD .mergeOffside)) ∧
      (s.shoulder g = .opened → shown 0 = some ((overlay 0).getD (limitAspect l)))) := by
  intro d shown overlay target
  have carriageway := State.carriageway_of demanded
  have shoulder := s.settled_shoulder g g
  have reachable : target ↔ ((s.settled g).runningAspects g).any (fun a => decide (a ≠ .closed)) = true :=
    State.demand_target
  refine ⟨fun lane low high => ?_, fun hard => ?_⟩
  · show onLane _ _ _ = some ((t.overlayAspect g lane).getD _)
    rw [State.demand_onLane (GantryDesc.running_signed low high), State.laneAspect_running (by omega), carriageway,
      h.overlayAspect]
  · have zero : shown 0 = some ((s.settled g).laneAspect g 0) := State.demand_onLane (GantryDesc.shoulder_signed hard)
    rw [zero, show overlay 0 = (s.settled g).overlayAspect g 0 from h.overlayAspect 0]
    refine ⟨fun closed => ?_, fun merge shut => ?_, fun merge reach => ?_, fun opened => ?_⟩
    · rw [State.laneAspect_shut (by rw [shoulder, closed]; rfl)]
    · rw [State.laneAspect_shut]
      rw [shoulder, merge]
      exact congrArg some (if_neg (mt reachable.mpr shut))
    · rw [State.laneAspect_merging]
      rw [shoulder, merge]
      exact congrArg some (if_pos (reachable.mp reach))
    · rw [State.laneAspect_opened (shoulder.trans opened), carriageway]

/-- The legend of the visited gantry (R143). -/
theorem State.Visited.legend (h : s.Visited g t) :
    let band := if s.mode = .startup then Legend.blank else s.tables.bandLegend (s.gantryControl g).band
    let covering := s.limitOrders.filter (fun o => decide (o.firstGantry ≤ g ∧ g ≤ o.lastGantry))
    (t.incidentAsked g = true → (s.demand g).legend = .incidentAhead) ∧
    (t.incidentAsked g = false → band = .queueAhead → (s.demand g).legend = .queueAhead) ∧
    (t.incidentAsked g = false → band ≠ .queueAhead →
      (∀ before after o legend, covering = before ++ o :: after → o.legend = some legend →
        (∀ p ∈ before, p.legend ≠ none → o.cap < p.cap) → (∀ p ∈ after, p.legend ≠ none → o.cap ≤ p.cap) →
        (s.demand g).legend = legend) ∧
      ((∀ o ∈ covering, o.legend = none) →
        (band = .congestion → (s.demand g).legend = .congestion) ∧
        (band ≠ .congestion → s.shoulder g = .opened → (s.demand g).legend = .shoulderRunning) ∧
        (band ≠ .congestion → s.shoulder g ≠ .opened → (s.demand g).legend = .blank))) := by
  intro band covering
  have asked : t.incidentAsked g = (s.settled g).incidentAsked g := by
    unfold State.incidentAsked
    rw [h.closures]
  have handed : (s.settled g).handedLegend g = band := by
    have mode : (s.settled g).mode = s.mode := congrArg ModeControl.mode (s.settled_touches g .modeControl (by decide))
    have tables : (s.settled g).tables = s.tables := s.settled_touches g .tables (by decide)
    unfold State.handedLegend
    rw [mode, tables, State.settled_band]
  have orders : (s.settled g).coveringOrders g = covering := by
    unfold State.coveringOrders
    rw [show (s.settled g).limitOrders = s.limitOrders from s.settled_touches g .limitOrders (by decide)]
  rw [asked]
  show (_ → (s.settled g).composeLegend g = _) ∧ (_ → _ → (s.settled g).composeLegend g = _) ∧ _
  refine ⟨State.composeLegend_incident, fun unasked queue => State.composeLegend_queue unasked (handed.trans queue),
    fun unasked clear => ⟨fun before after o legend split given earlier later => ?_, fun plain => ?_⟩⟩
  · exact State.composeLegend_order unasked (handed ▸ clear) (orders.trans split) given earlier later
  · have chosen := State.composeLegend_none unasked (handed ▸ clear) (orders ▸ plain)
    rw [handed, State.settled_shoulder] at chosen
    refine ⟨fun congested => chosen.trans (if_pos congested), fun other opened => ?_, fun other unopened => ?_⟩
    · exact chosen.trans ((if_neg other).trans (if_pos opened))
    · exact chosen.trans ((if_neg other).trans (if_neg unopened))

/-- The placement of the visited gantry (R144). -/
theorem State.Visited.placed (h : s.Visited g t) (inside : g < s.composer.delivery.length) :
    let r := t.deliveryRec g
    let held := ∃ e ∈ s.composer.queue, e.gantry = g
    let wanted := r.state ≠ .failed ∧ r.state ≠ .inLocal ∧ (r.sent = none ∨ r.sent ≠ some (s.demand g))
    let due := r.state ≠ .inLocal ∧ ∃ n, r.sinceSet = some n ∧ s.par.refreshTime * 1000 ≤ n
    let cls := t.placementClass g
    (wanted → ¬ held → t.composer.queue = s.composer.queue ++ [{ gantry := g, cls := cls }]) ∧
    (wanted → held → t.composer.queue = s.composer.queue.map (fun e =>
      if e.gantry = g ∧ cls = .restrictive then { e with cls := .restrictive } else e)) ∧
    (¬ wanted → due → ¬ held → t.composer.queue = s.composer.queue ++ [{ gantry := g, cls := .ordinary }]) ∧
    (¬ wanted → (¬ due ∨ held) → t.composer.queue = s.composer.queue) := by
  intro r held wanted due cls
  have record : r = (s.demanding g).deliveryRec g := h.deliveryRec g
  have class_same : cls = (s.demanding g).placementClass g := h.placementClass
  have queue : (s.demanding g).composer.queue = s.composer.queue := by
    show (s.settled g).composer.queue = _
    rw [show (s.settled g).composer = s.composer from s.settled_touches g .composer (by decide)]
  have demanded : ((s.demanding g).deliveryRec g).demanded = some (s.demand g) := by
    rw [State.demanding_deliveryRec_self inside]
  have unsent : (s.demanding g).demandUnsent g = true ↔ wanted := by
    rw [State.demandUnsent_iff demanded, ← record]
  rw [h.queue, class_same]
  refine ⟨fun yes absent => ?_, fun yes present => ?_, fun no is_due absent => ?_, fun no other => ?_⟩
  · obtain ⟨joined, -⟩ := State.placeVisited_unsent (unsent.mpr yes)
    rw [queue] at joined
    exact joined absent
  · obtain ⟨-, updated⟩ := State.placeVisited_unsent (unsent.mpr yes)
    rw [queue] at updated
    exact updated present
  · obtain ⟨refreshed, -⟩ := State.placeVisited_sent (Bool.eq_false_iff.mpr (mt unsent.mp no))
    rw [queue, ← record, show (s.demanding g).par = s.par from s.settled_par g] at refreshed
    exact refreshed is_due absent
  · obtain ⟨-, left⟩ := State.placeVisited_sent (Bool.eq_false_iff.mpr (mt unsent.mp no))
    rw [queue, ← record, show (s.demanding g).par = s.par from s.settled_par g] at left
    exact left other

end visited

/-- Settles O33: the clauses of `Visited`, and the count of `visit_counts`. -/
theorem visitComposesTheGantry : Obligations.VisitComposesTheGantry := by
  unfold Obligations.VisitComposesTheGantry
  intro s g released pass inside_control inside_delivery
  have taken : exec .compositionPassVisit s = .next (s.visit g).countVisited := by
    show execCompositionPassVisit s = _
    rw [execCompositionPassVisit, State.unlessReset_released released, pass]
  have visited := s.visit_visited g
  have counts := s.visit_counts g
  obtain ⟨l, demanded⟩ : ∃ l, ((s.settled g).gantryControl g).demanded = some l := by
    rw [s.settled_gantryControl_self g inside_control]
    exact GantryControl.settleDwell_demands _ _ _ _
  obtain ⟨sites, alerts⟩ := visited.sites
  generalize (s.visit g).countVisited = t at taken visited counts sites alerts
  refine ⟨t, l, s.demand g, taken, visited.frame, visited.rotation, fun x other => ⟨?_, ?_⟩, sites, alerts, ?_, ?_,
    s.demand_length g, s.demand_ne_blank g, ⟨fun lane a => ?_, ?_⟩, visited.legend, visited.placed inside_delivery, counts⟩
  · rw [visited.gantryControl, s.settled_gantryControl_ne g other]
  · rw [visited.deliveryRec, State.demanding_deliveryRec_ne other]
  · exact visited.limit inside_control demanded
  · rw [visited.deliveryRec, State.demanding_deliveryRec_self inside_delivery]
  · exact State.overlayAspect_kinds g lane t a
  · have lanes := visited.lanes demanded
    cases l with
    | kmh v => exact lanes
    | nl => exact lanes

end Sys2Proof.Machine
end
